-- ==== Sys2Proof/Word.lean ====
section
/-! DEFINITION. The word types: a byte of the framebuffer or of the bus, and a 16-bit operand or payload value
(spec/00_scope.md R6). -/

namespace Sys2Proof

/-- A byte is 8 bits (R6). -/
abbrev Byte := BitVec 8

/-- A 16-bit value: a coordinate operand (10_state.md R10) or a two-byte payload value (20_memory.md R42). -/
abbrev Half := BitVec 16

end Sys2Proof
end

