-- ==== Sys2Proof/Syntax.lean ====
section
/-! DEFINITION. The instructions of both formats (spec/30_encoding.md R60 to R68, R72), the operand enumerations, and
the two encoded forms an instruction has: the five-field request record and the command descriptor. -/

namespace Sys2Proof

/-- The colours of SET_PIXEL and CLEAR; the enumeration is closed (30_encoding.md R63, R73). -/
inductive Color where
  | white
  | black
  | red
  deriving DecidableEq, Repr

/-- The refresh modes of UPDATE, `Full` and `Partial` (30_encoding.md R64). -/
inductive RefreshMode where
  | fullRefresh
  | partialRefresh
  deriving DecidableEq, Repr

/-- The two pixel planes: `BW` is plane 0, `RED` is plane 1 (30_encoding.md R65, 10_state.md R14). -/
inductive PlaneId where
  | bw
  | red
  deriving DecidableEq, Repr

/-- One constructor per row of spec/opcode_table.json. A descriptor constructor carries the data bytes that follow
its opcode byte, with a two-byte payload value as one 16-bit operand (20_memory.md R42); a request constructor
carries the request's operands (30_encoding.md R61). -/
inductive Instr where
  /-- `CMD(OPC_DRIVER_OUTPUT){lo8 lines, hi8 lines, scan}` (40_command_encoder.md R91). -/
  | driverOutputControl (lines : Half) (scan : Byte)
  /-- `CMD(OPC_DATA_ENTRY){v}` (R92). -/
  | dataEntryMode (v : Byte)
  /-- `CMD(OPC_RAM_X_RANGE){xs, xe}`, byte columns, start first (R93, 30_encoding.md R70). -/
  | ramXRange (xs xe : Byte)
  /-- `CMD(OPC_RAM_Y_RANGE){lo8 ys, hi8 ys, lo8 ye, hi8 ye}`, rows, start first (R94, 30_encoding.md R71). -/
  | ramYRange (ys ye : Half)
  /-- `CMD(OPC_BORDER_WAVEFORM){v}` (R95). -/
  | borderWaveform (v : Byte)
  /-- `CMD(OPC_TEMP_SENSOR){v}` (R96). -/
  | tempSensor (v : Byte)
  /-- `CMD(OPC_UPDATE_CTRL_1){a, b}` (R97). -/
  | updateCtrl1 (a b : Byte)
  /-- `CMD(OPC_UPDATE_CTRL_2){u}` (R98). -/
  | updateCtrl2 (u : Byte)
  /-- `CMD(OPC_MASTER_ACTIVATION){}` (R99). -/
  | masterActivation
  /-- `CMD(OPC_WRITE_RAM_BW){bytes}` (R100). -/
  | writeRamBw (bytes : List Byte)
  /-- `CMD(OPC_WRITE_RAM_RED){bytes}` (R101). -/
  | writeRamRed (bytes : List Byte)
  /-- `CMD(OPC_DEEP_SLEEP){v}` (R102). -/
  | deepSleep (v : Byte)
  /-- INIT (42_display_driver.md R142). -/
  | init
  /-- SET_PIXEL, logical coordinates (41_framebuffer.md R125). -/
  | setPixel (x y : Half) (colour : Color)
  /-- CLEAR (41_framebuffer.md R126). -/
  | clear (colour : Color)
  /-- UPDATE (42_display_driver.md R144). -/
  | update (mode : RefreshMode)
  /-- SLEEP (42_display_driver.md R145). -/
  | sleep
  deriving DecidableEq, Repr

/-- The twelve commands by name, for the opcode parameters `OPC_*` (30_encoding.md R72). -/
inductive Cmd where
  | driverOutputControl
  | dataEntryMode
  | ramXRange
  | ramYRange
  | borderWaveform
  | tempSensor
  | updateCtrl1
  | updateCtrl2
  | masterActivation
  | writeRamBw
  | writeRamRed
  | deepSleep
  deriving DecidableEq, Repr

/-- A command descriptor: a one-byte opcode and zero or more data bytes in transfer order (30_encoding.md R67). -/
structure Descriptor where
  op : Byte
  data : List Byte
  deriving DecidableEq, Repr

/-- A host request as the five operand fields `req_op`, `req_x`, `req_y`, `req_color`, `req_mode`
(30_encoding.md R61, 10_state.md R10). -/
structure Request where
  op : BitVec 3
  x : Half
  y : Half
  color : BitVec 2
  mode : BitVec 1
  deriving DecidableEq, Repr

/-- An encoded instruction in one of the two formats (30_encoding.md R60). -/
inductive Encoded where
  | req (r : Request)
  | cmd (d : Descriptor)
  deriving DecidableEq, Repr

/-- Why the decoder refuses (30_encoding.md R73, R74). -/
inductive DecodeError where
  /-- `req_op` is 5, 6 or 7. -/
  | reservedRequest (op : BitVec 3)
  /-- `req_color` is 3 in a request that uses the colour. -/
  | reservedColor
  /-- No bytes at all, so no opcode byte. -/
  | noOpcode
  /-- The opcode byte is none of the twelve the block emits. -/
  | unknownOpcode (op : Byte)
  /-- The number of data bytes is not the one 30_encoding.md R68 fixes for the command. -/
  | wrongDataLength (cmd : Cmd)
  deriving DecidableEq, Repr

end Sys2Proof
end

