-- ==== Sys2Proof/Config.lean ====
section
/-! DEFINITION. What is fixed at construction (spec/00_scope.md R5, 10_state.md R11): the geometry, the open timing
parameters, the twelve opcode bytes and the nine payload constants. Also the free values: the environment's answers
past the ones a state lists. -/

namespace Sys2Proof

/-- The four rotations `R0`, `R90`, `R180`, `R270` (30_encoding.md R65). -/
inductive Rotation where
  | r0
  | r90
  | r180
  | r270
  deriving DecidableEq, Repr

/-- `PLANES` is 1 or 2 and nothing else (10_state.md R11). -/
inductive PlaneCount where
  | one
  | two
  deriving DecidableEq, Repr

/-- The twelve `OPC_*` parameters (00_scope.md R5). -/
structure Opcodes where
  driverOutput : Byte
  deepSleep : Byte
  dataEntry : Byte
  tempSensor : Byte
  masterActivation : Byte
  updateCtrl1 : Byte
  updateCtrl2 : Byte
  writeRamBw : Byte
  writeRamRed : Byte
  borderWaveform : Byte
  ramXRange : Byte
  ramYRange : Byte
  deriving DecidableEq, Repr

/-- The nine `VAL_*` parameters (00_scope.md R5). -/
structure Payloads where
  gateScan : Byte
  dataEntry : Byte
  border : Byte
  tempSensor : Byte
  updateCtrl1A : Byte
  updateCtrl1B : Byte
  updateFull : Byte
  updatePartial : Byte
  deepSleep : Byte
  deriving DecidableEq, Repr

/-- The configuration registers (10_state.md R11): `W`, `H`, `ROT`, `PLANES`, `T_RESET_HOLD`, `T_RESET_SETTLE`,
`T_POLL`, `MAX_POLLS`, `OPC_*`, `VAL_*`. The sizes are naturals: 41_framebuffer.md R130 says the arithmetic never
wraps and allows it. -/
structure Config where
  width : Nat
  height : Nat
  rot : Rotation
  planes : PlaneCount
  tResetHold : Nat
  tResetSettle : Nat
  tPoll : Nat
  maxPolls : Nat
  opc : Opcodes
  val : Payloads
  deriving DecidableEq, Repr

/-- The twelve opcode bytes as a list, for the rule that they are pairwise different (00_scope.md R5). -/
def Opcodes.toList (o : Opcodes) : List Byte :=
  [o.driverOutput, o.dataEntry, o.ramXRange, o.ramYRange, o.borderWaveform, o.tempSensor, o.updateCtrl1,
    o.updateCtrl2, o.masterActivation, o.writeRamBw, o.writeRamRed, o.deepSleep]

/-- What the bus answers a `BusWrite` (00_scope.md R8). -/
inductive BusAnswer where
  | ok
  | err
  deriving DecidableEq, Repr, Inhabited

/-- FREE VALUE (log 2): the bus's answer number `n` past the answers a state lists. No source constrains it
(20_memory.md R33, 93_implementation_defined.md U8). -/
opaque Config.freeBusAnswer : Nat → BusAnswer

/-- FREE VALUE (log 2): the chip's busy answer number `n` past the samples a state lists (20_memory.md R33, U8). -/
opaque Config.freeBusySample : Nat → Bool

end Sys2Proof
end

