-- ==== Sys2Proof/Machine/Geometry.lean ====
section
/-! DEFINITION. The numbers derived from the configuration (spec/00_scope.md R5), byte halves (R6, 20_memory.md R42),
framebuffer addressing (20_memory.md R31), the rotation (41_framebuffer.md R122) and the default configuration
values. -/

namespace Sys2Proof.Machine

/-- `BPR` = `ceil(W / 8)` = `(W + 7) >> 3` (00_scope.md R5). -/
def bpr (c : Config) : Nat :=
  (c.width + 7) / 8

/-- `PLANE_LEN` = `BPR * H` (00_scope.md R5). -/
def planeLen (c : Config) : Nat :=
  bpr c * c.height

/-- `LW` (00_scope.md R5). -/
def logicalWidth (c : Config) : Nat :=
  match c.rot with
  | .r0 | .r180 => c.width
  | .r90 | .r270 => c.height

/-- `LH` (00_scope.md R5). -/
def logicalHeight (c : Config) : Nat :=
  match c.rot with
  | .r0 | .r180 => c.height
  | .r90 | .r270 => c.width

/-- Whether plane `p` exists: `BW` always, `RED` only when `PLANES` = 2 (10_state.md R14). -/
def planeAllocated (c : Config) (p : PlaneId) : Bool :=
  match p, c.planes with
  | .bw, _ => true
  | .red, .two => true
  | .red, .one => false

/-- `lo8(v)` = `v[7:0]` (00_scope.md R6). -/
def lo8 (v : Half) : Byte :=
  v.extractLsb' 0 8

/-- `hi8(v)` = `v[15:8]` (00_scope.md R6). -/
def hi8 (v : Half) : Byte :=
  v.extractLsb' 8 8

/-- The 16-bit value a low byte and a high byte stand for (20_memory.md R42). -/
def fromBytes (lo hi : Byte) : Half :=
  hi ++ lo

/-- `xa(x)` = `x >> 3`, an 8-bit byte column (30_encoding.md R70). -/
def columnOf (x : Nat) : Byte :=
  BitVec.ofNat 8 (x / 8)

/-- `ya(y)` = `y`, a 16-bit row number (30_encoding.md R71). -/
def rowOf (y : Nat) : Half :=
  BitVec.ofNat 16 y

/-- `locate(px, py)`: the byte index in the plane and the one-hot mask within the byte (20_memory.md R31). -/
def locate (c : Config) (px py : Nat) : Nat × Byte :=
  (py * bpr c + px / 8, (0x80#8) >>> (px % 8))

/-- `rot(x, y)`: logical to physical coordinates (41_framebuffer.md R122).
PRESUMED, log 13: the four formulas are the spec's choice from general knowledge (GK4). -/
def rotate (c : Config) (x y : Nat) : Nat × Nat :=
  match c.rot with
  | .r0 => (x, y)
  | .r90 => (c.width - 1 - y, x)
  | .r180 => (c.width - 1 - x, c.height - 1 - y)
  | .r270 => (y, c.height - 1 - x)

/-- The in-width bits of a row's last byte: `last` of CLEAR (41_framebuffer.md R126, 10_state.md R15). -/
def lastByteMask (c : Config) : Byte :=
  if c.width % 8 = 0 then 0xFF#8 else (0xFF#8) <<< (8 - c.width % 8)

/-- Default opcode bytes. PRESUMED, log 6: general knowledge of the chip family (GK1). -/
def defaultOpcodes : Opcodes where
  driverOutput := 0x01#8
  deepSleep := 0x10#8
  dataEntry := 0x11#8
  tempSensor := 0x18#8
  masterActivation := 0x20#8
  updateCtrl1 := 0x21#8
  updateCtrl2 := 0x22#8
  writeRamBw := 0x24#8
  writeRamRed := 0x26#8
  borderWaveform := 0x3C#8
  ramXRange := 0x44#8
  ramYRange := 0x45#8

/-- Default payload constants. PRESUMED, log 7: general knowledge of the chip family (GK2). -/
def defaultPayloads : Payloads where
  gateScan := 0x00#8
  dataEntry := 0x03#8
  border := 0x05#8
  tempSensor := 0x80#8
  updateCtrl1A := 0x00#8
  updateCtrl1B := 0x80#8
  updateFull := 0xF7#8
  updatePartial := 0xFF#8
  deepSleep := 0x01#8

/-- A configuration with the given geometry and the default bytes. The two reset times are PRESUMED (GK5, log 5). -/
def configOf (width height : Nat) (rot : Rotation) (planes : PlaneCount) (maxPolls : Nat) : Config where
  width := width
  height := height
  rot := rot
  planes := planes
  tResetHold := 10
  tResetSettle := 10
  tPoll := 1
  maxPolls := maxPolls
  opc := defaultOpcodes
  val := defaultPayloads

/-- The construction arguments State.reset is built with: the configuration of program P2 of 95_test_vectors.md
(12 by 3, `R90`, two planes, `MAX_POLLS` = 3). DESIGN CHOICE, log 4: the spec leaves them to the host. -/
def resetConfig : Config :=
  configOf 12 3 .r90 .two 3

end Sys2Proof.Machine
end

