-- ==== Sys2Proof/Machine/Descriptors.lean ====
section
/-! DEFINITION. The opcode byte of each command, the data length of each command (spec/30_encoding.md R68, R72), and
one builder per command descriptor (40_command_encoder.md R91 to R102). -/

namespace Sys2Proof.Machine

/-- The opcode parameter of a command (30_encoding.md R72). -/
def opcodeOf (o : Opcodes) : Cmd → Byte
  | .driverOutputControl => o.driverOutput
  | .dataEntryMode => o.dataEntry
  | .ramXRange => o.ramXRange
  | .ramYRange => o.ramYRange
  | .borderWaveform => o.borderWaveform
  | .tempSensor => o.tempSensor
  | .updateCtrl1 => o.updateCtrl1
  | .updateCtrl2 => o.updateCtrl2
  | .masterActivation => o.masterActivation
  | .writeRamBw => o.writeRamBw
  | .writeRamRed => o.writeRamRed
  | .deepSleep => o.deepSleep

/-- The twelve commands, in the opcode table's order. -/
def allCommands : List Cmd :=
  [.driverOutputControl, .dataEntryMode, .ramXRange, .ramYRange, .borderWaveform, .tempSensor, .updateCtrl1,
    .updateCtrl2, .masterActivation, .writeRamBw, .writeRamRed, .deepSleep]

/-- The command an opcode byte selects: the byte alone decides (30_encoding.md R67). -/
def commandOf (o : Opcodes) (op : Byte) : Option Cmd :=
  allCommands.find? fun k => opcodeOf o k == op

/-- The number of data bytes of a command (30_encoding.md R68). -/
def dataLength (c : Config) : Cmd → Nat
  | .driverOutputControl => 3
  | .dataEntryMode => 1
  | .ramXRange => 2
  | .ramYRange => 4
  | .borderWaveform => 1
  | .tempSensor => 1
  | .updateCtrl1 => 2
  | .updateCtrl2 => 1
  | .masterActivation => 0
  | .writeRamBw => planeLen c
  | .writeRamRed => planeLen c
  | .deepSleep => 1

/-- DRIVER_OUTPUT_CONTROL: the gate-line count low byte first, then the scan byte (R91, 30_encoding.md R69). -/
def driverOutputControl (c : Config) (lines : Half) (scan : Byte) : Descriptor :=
  ⟨opcodeOf c.opc .driverOutputControl, [lo8 lines, hi8 lines, scan]⟩

/-- DATA_ENTRY_MODE (R92). -/
def dataEntryMode (c : Config) (v : Byte) : Descriptor :=
  ⟨opcodeOf c.opc .dataEntryMode, [v]⟩

/-- RAM_X_RANGE: start column, end column (R93, 30_encoding.md R70). -/
def ramXRange (c : Config) (xs xe : Byte) : Descriptor :=
  ⟨opcodeOf c.opc .ramXRange, [xs, xe]⟩

/-- RAM_Y_RANGE: start row, end row, each low byte first (R94, 30_encoding.md R71). -/
def ramYRange (c : Config) (ys ye : Half) : Descriptor :=
  ⟨opcodeOf c.opc .ramYRange, [lo8 ys, hi8 ys, lo8 ye, hi8 ye]⟩

/-- BORDER_WAVEFORM (R95). -/
def borderWaveform (c : Config) (v : Byte) : Descriptor :=
  ⟨opcodeOf c.opc .borderWaveform, [v]⟩

/-- TEMP_SENSOR (R96). -/
def tempSensor (c : Config) (v : Byte) : Descriptor :=
  ⟨opcodeOf c.opc .tempSensor, [v]⟩

/-- UPDATE_CTRL_1 (R97). -/
def updateCtrl1 (c : Config) (a b : Byte) : Descriptor :=
  ⟨opcodeOf c.opc .updateCtrl1, [a, b]⟩

/-- UPDATE_CTRL_2 (R98). -/
def updateCtrl2 (c : Config) (u : Byte) : Descriptor :=
  ⟨opcodeOf c.opc .updateCtrl2, [u]⟩

/-- MASTER_ACTIVATION: no data bytes (R99). -/
def masterActivation (c : Config) : Descriptor :=
  ⟨opcodeOf c.opc .masterActivation, []⟩

/-- WRITE_RAM_BW: the plane's bytes unchanged, byte 0 first (R100). -/
def writeRamBw (c : Config) (bytes : List Byte) : Descriptor :=
  ⟨opcodeOf c.opc .writeRamBw, bytes⟩

/-- WRITE_RAM_RED: the plane's bytes unchanged, byte 0 first (R101). -/
def writeRamRed (c : Config) (bytes : List Byte) : Descriptor :=
  ⟨opcodeOf c.opc .writeRamRed, bytes⟩

/-- DEEP_SLEEP (R102). -/
def deepSleep (c : Config) (v : Byte) : Descriptor :=
  ⟨opcodeOf c.opc .deepSleep, [v]⟩

end Sys2Proof.Machine
end

