-- ==== Sys2Proof/WellFormed.lean ====
section
/-! DEFINITION. Which configurations the block is defined for (spec/10_state.md R11), and which instructions are the
block's own under a configuration: every request, and the descriptors of 30_encoding.md R72. -/

namespace Sys2Proof

/-- A well-formed configuration (10_state.md R11; `PLANES` and `ROT` are legal by their types). -/
abbrev Config.WellFormed (c : Config) : Prop :=
  1 ≤ c.width ∧ c.width ≤ 2048 ∧ 1 ≤ c.height ∧ c.height ≤ 65536 ∧ 1 ≤ c.maxPolls ∧ c.opc.toList.Nodup

/-- An instruction of the block under configuration `c`. For a descriptor: its data bytes are ones 30_encoding.md R72
lists, with a window inside the panel (40_command_encoder.md R93, R94) and a plane that is allocated and whole
(R100, R101). Every request is one: its type expresses nothing else (30_encoding.md R73). -/
abbrev Instr.WellFormed (c : Config) : Instr → Prop
  | .driverOutputControl lines scan => lines.toNat + 1 = c.height ∧ scan = c.val.gateScan
  | .dataEntryMode v => v = c.val.dataEntry
  | .ramXRange xs xe => xs.toNat ≤ xe.toNat ∧ xe.toNat < Machine.bpr c
  | .ramYRange ys ye => ys.toNat ≤ ye.toNat ∧ ye.toNat < c.height
  | .borderWaveform v => v = c.val.border
  | .tempSensor v => v = c.val.tempSensor
  | .updateCtrl1 a b => a = c.val.updateCtrl1A ∧ b = c.val.updateCtrl1B
  | .updateCtrl2 u => u = c.val.updateFull ∨ u = c.val.updatePartial
  | .masterActivation => True
  | .writeRamBw bytes => bytes.length = Machine.planeLen c
  | .writeRamRed bytes => c.planes = .two ∧ bytes.length = Machine.planeLen c
  | .deepSleep v => v = c.val.deepSleep
  | .init => True
  | .setPixel _ _ _ => True
  | .clear _ => True
  | .update _ => True
  | .sleep => True

end Sys2Proof
end

