-- ==== Sys2Proof/Decode.lean ====
section
/-! DEFINITION. The decoder of both formats, total, refusing by name (spec/30_encoding.md R61 to R64, R67, R68, R73,
R74), and after it the encoder, written from the same tables. The opcode bytes are the configuration's (00_scope.md
R5). -/

namespace Sys2Proof

/-- The colour of a `req_color` code; 3 is reserved (30_encoding.md R63, R73). -/
def colorOfCode (b : BitVec 2) : Option Color :=
  if b = 0#2 then some .white else if b = 1#2 then some .black else if b = 2#2 then some .red else none

/-- `White` = 0, `Black` = 1, `Red` = 2 (30_encoding.md R63). -/
def colorCode : Color → BitVec 2
  | .white => 0#2
  | .black => 1#2
  | .red => 2#2

/-- The refresh mode of a `req_mode` code (30_encoding.md R64). -/
def modeOfCode (b : BitVec 1) : RefreshMode :=
  if b = 0#1 then .fullRefresh else .partialRefresh

/-- `Full` = 0, `Partial` = 1 (30_encoding.md R64). -/
def modeCode : RefreshMode → BitVec 1
  | .fullRefresh => 0#1
  | .partialRefresh => 1#1

/-- A request record to its instruction: the fields a request does not use are ignored (30_encoding.md R61, R62). -/
def decodeRequest (r : Request) : Except DecodeError Instr :=
  if r.op = 0#3 then .ok .init
  else if r.op = 1#3 then
    match colorOfCode r.color with
    | some col => .ok (.setPixel r.x r.y col)
    | none => .error .reservedColor
  else if r.op = 2#3 then
    match colorOfCode r.color with
    | some col => .ok (.clear col)
    | none => .error .reservedColor
  else if r.op = 3#3 then .ok (.update (modeOfCode r.mode))
  else if r.op = 4#3 then .ok .sleep
  else .error (.reservedRequest r.op)

/-- The data bytes of a command to its instruction (30_encoding.md R68, R69 to R72). -/
def decodeData (c : Config) : Cmd → List Byte → Except DecodeError Instr
  | .driverOutputControl, [l, h, s] => .ok (.driverOutputControl (Machine.fromBytes l h) s)
  | .driverOutputControl, _ => .error (.wrongDataLength .driverOutputControl)
  | .dataEntryMode, [v] => .ok (.dataEntryMode v)
  | .dataEntryMode, _ => .error (.wrongDataLength .dataEntryMode)
  | .ramXRange, [a, b] => .ok (.ramXRange a b)
  | .ramXRange, _ => .error (.wrongDataLength .ramXRange)
  | .ramYRange, [sl, sh, el, eh] => .ok (.ramYRange (Machine.fromBytes sl sh) (Machine.fromBytes el eh))
  | .ramYRange, _ => .error (.wrongDataLength .ramYRange)
  | .borderWaveform, [v] => .ok (.borderWaveform v)
  | .borderWaveform, _ => .error (.wrongDataLength .borderWaveform)
  | .tempSensor, [v] => .ok (.tempSensor v)
  | .tempSensor, _ => .error (.wrongDataLength .tempSensor)
  | .updateCtrl1, [a, b] => .ok (.updateCtrl1 a b)
  | .updateCtrl1, _ => .error (.wrongDataLength .updateCtrl1)
  | .updateCtrl2, [u] => .ok (.updateCtrl2 u)
  | .updateCtrl2, _ => .error (.wrongDataLength .updateCtrl2)
  | .masterActivation, [] => .ok .masterActivation
  | .masterActivation, _ => .error (.wrongDataLength .masterActivation)
  | .writeRamBw, bytes =>
    if bytes.length = Machine.planeLen c then .ok (.writeRamBw bytes) else .error (.wrongDataLength .writeRamBw)
  | .writeRamRed, bytes =>
    if bytes.length = Machine.planeLen c then .ok (.writeRamRed bytes) else .error (.wrongDataLength .writeRamRed)
  | .deepSleep, [v] => .ok (.deepSleep v)
  | .deepSleep, _ => .error (.wrongDataLength .deepSleep)

/-- A command descriptor to its instruction: the opcode byte alone selects the command (30_encoding.md R67). -/
def decodeDescriptor (c : Config) (d : Descriptor) : Except DecodeError Instr :=
  match Machine.commandOf c.opc d.op with
  | some k => decodeData c k d.data
  | none => .error (.unknownOpcode d.op)

/-- The bytes of a descriptor in transfer order, opcode first (30_encoding.md R67). -/
def decodeBytes (c : Config) : List Byte → Except DecodeError Instr
  | [] => .error .noOpcode
  | op :: data => decodeDescriptor c ⟨op, data⟩

/-- The decoder of both formats (30_encoding.md R60). -/
def decode (c : Config) : Encoded → Except DecodeError Instr
  | .req r => decodeRequest r
  | .cmd d => decodeDescriptor c d

/-- An instruction in its encoded form (30_encoding.md R61 to R64, R72); a field a request does not use is 0. -/
def encode (c : Config) : Instr → Encoded
  | .driverOutputControl lines scan => .cmd (Machine.driverOutputControl c lines scan)
  | .dataEntryMode v => .cmd (Machine.dataEntryMode c v)
  | .ramXRange xs xe => .cmd (Machine.ramXRange c xs xe)
  | .ramYRange ys ye => .cmd (Machine.ramYRange c ys ye)
  | .borderWaveform v => .cmd (Machine.borderWaveform c v)
  | .tempSensor v => .cmd (Machine.tempSensor c v)
  | .updateCtrl1 a b => .cmd (Machine.updateCtrl1 c a b)
  | .updateCtrl2 u => .cmd (Machine.updateCtrl2 c u)
  | .masterActivation => .cmd (Machine.masterActivation c)
  | .writeRamBw bytes => .cmd (Machine.writeRamBw c bytes)
  | .writeRamRed bytes => .cmd (Machine.writeRamRed c bytes)
  | .deepSleep v => .cmd (Machine.deepSleep c v)
  | .init => .req ⟨0#3, 0#16, 0#16, 0#2, 0#1⟩
  | .setPixel x y col => .req ⟨1#3, x, y, colorCode col, 0#1⟩
  | .clear col => .req ⟨2#3, 0#16, 0#16, colorCode col, 0#1⟩
  | .update m => .req ⟨3#3, 0#16, 0#16, 0#2, modeCode m⟩
  | .sleep => .req ⟨4#3, 0#16, 0#16, 0#2, 0#1⟩

/-- The request record whose fields are read off one number, `req_op` in bits 2..0 as spec/opcode_table.json numbers
it and then `req_x`, `req_y`, `req_color`, `req_mode`. DESIGN CHOICE, log 17: only `req_op` has a place in the
table; the places of the others are the model's. -/
def requestOfNumber (w : Nat) : Request :=
  ⟨BitVec.ofNat 3 w, BitVec.ofNat 16 (w / 2 ^ 3), BitVec.ofNat 16 (w / 2 ^ 19), BitVec.ofNat 2 (w / 2 ^ 35),
    BitVec.ofNat 1 (w / 2 ^ 37)⟩

/-- The instruction of `nbits` bits `w` laid out in its format, every bit above `nbits` zero: a descriptor gets the
data bytes its command has, a request all five fields. Fewer than 8 bits is a `REQ` row; 8 or more is a `CMD` row
when the low byte is one of the twelve opcode bytes, else a `REQ` row when the number is a `req_op` code.
DESIGN CHOICE, log 17. -/
def layoutTableWord (c : Config) (nbits w : Nat) : Encoded :=
  let v := w % 2 ^ nbits
  if nbits < 8 then .req (requestOfNumber v)
  else
    match Machine.commandOf c.opc (BitVec.ofNat 8 v) with
    | some k =>
      .cmd ⟨BitVec.ofNat 8 v, (List.range (Machine.dataLength c k)).map fun j => BitVec.ofNat 8 (v / 2 ^ (8 * (j + 1)))⟩
    | none => if v < 8 then .req (requestOfNumber v) else .cmd ⟨BitVec.ofNat 8 v, []⟩

/-- What the decoder reads from an instruction numbered as spec/opcode_table.json numbers it, under the opcode bytes
of the construction State.reset is (the table's own values). -/
def decodeTableWord (nbits w : Nat) : Option Instr :=
  (decode Machine.resetConfig (layoutTableWord Machine.resetConfig nbits w)).toOption

end Sys2Proof
end

