-- ==== Sys2Proof/Machine/State.lean ====
section
/-! DEFINITION. The state of the block as plain data (spec/10_state.md), with the environment's coming requests and
answers, the reasons a step can stop, and the state after construction (70_reset_and_hazards.md R200). -/

namespace Sys2Proof.Machine

/-- `DRV_STATE` (10_state.md R12). -/
inductive DrvState where
  | uninitialized
  | ready
  | updating
  | sleeping
  deriving DecidableEq, Repr

/-- The six error kinds (60_exceptions.md R170). They are results of requests, not stops of the machine. -/
inductive ErrorKind where
  | busFailure
  | timeout
  | invalidState
  | invalidRegion
  | outOfBounds
  | unsupportedColor
  deriving DecidableEq, Repr

/-- The result of a request (10_state.md R21). -/
inductive Result where
  | ok
  | err (kind : ErrorKind)
  deriving DecidableEq, Repr

/-- The value last driven on the reset line (10_state.md R17). -/
inductive ResetLevel where
  | asserted
  | deasserted
  deriving DecidableEq, Repr

/-- The value last driven on the command/data select (10_state.md R18). -/
inductive SelectMode where
  | command
  | data
  deriving DecidableEq, Repr

/-- The three durations of `Delay`, compared only by name (20_memory.md R36, 70_reset_and_hazards.md R215). -/
inductive Duration where
  | resetHold
  | resetSettle
  | poll
  deriving DecidableEq, Repr

/-- The events of the trace (00_scope.md R8): `RST(1)` and `RST(0)`, `DELAY(d)`, `MODE(C)` and `MODE(D)`,
`WRITE(bytes, a)`, `BUSY?(b)`. -/
inductive Event where
  | rst (level : ResetLevel)
  | delay (d : Duration)
  | mode (m : SelectMode)
  | write (bytes : List Byte) (answer : BusAnswer)
  | busy (b : Bool)
  deriving DecidableEq, Repr

/-- The single primitives a request's pseudocode is made of, apart from `Send`: the pulse of 42_display_driver.md
R147, the wait of R146 (its start and one turn of its loop) and the writes of `DRV_STATE`. -/
inductive Prim where
  | rstAssert
  | rstDeassert
  | delay (d : Duration)
  | pollStart
  | poll
  | writeDrv (st : DrvState)
  deriving DecidableEq, Repr

/-- What the sequencer performs next: a primitive, the `Send` of a descriptor, or the `Send` of a plane as it stands
at that moment (42_display_driver.md R144, R152). -/
inductive Task where
  | prim (p : Prim)
  | send (d : Descriptor)
  | sendPlane (p : PlaneId)
  deriving DecidableEq, Repr

/-- `SEQ` (10_state.md R19): idle between requests, else the position in the running request, given as what is left
to perform; with nothing left it stands at `return Ok`. DESIGN CHOICE, log 27: the spec leaves its form open. -/
inductive Seq where
  | idle
  | running (rest : List Task)
  deriving DecidableEq, Repr

/-- One plane of the framebuffer: byte `i` of the plane at address `i`, in the canonical form of `Memory.wf`. An
address that is not listed reads 0x00, the byte after construction (10_state.md R16). -/
abbrev Memory := List Host.Cell

/-- What an unlisted address reads as: every byte is 0x00 after construction (10_state.md R16). -/
def unlistedByte : Byte :=
  0x00#8

/-- The framebuffer `FB`: plane 0 and plane 1, the second in use only when `PLANES` = 2 (10_state.md R14). -/
structure Framebuffer where
  bw : Memory
  red : Memory
  deriving DecidableEq, Repr

/-- The state of the block, and the environment it runs in. -/
structure State where
  /-- The configuration registers (10_state.md R11). -/
  cfg : Config
  /-- `DRV_STATE` (R12). -/
  drvState : DrvState
  /-- `FB` (R14). -/
  fb : Framebuffer
  /-- `RST_OUT` (R17). -/
  rstOut : ResetLevel
  /-- `DC_OUT` (R18). -/
  dcOut : SelectMode
  /-- `SEQ` (R19). -/
  seq : Seq
  /-- `POLL_N` (R20): present only inside a wait. -/
  pollN : Option Nat
  /-- The operand registers (R10). -/
  req : Request
  /-- The result of the request that ended last (R21): none before the first one ends. -/
  result : Option Result
  /-- The trace, oldest event first (00_scope.md R4). -/
  trace : List Event
  /-- The environment: the requests the host will present, in order (log 3). -/
  requests : List Request
  /-- The environment: the bus's coming answers (20_memory.md R33, log 2). -/
  busAnswers : List BusAnswer
  /-- The environment: the chip's coming busy samples (R33, log 2). -/
  busySamples : List Bool
  /-- The model's own: the number of free bus answers drawn (log 2). -/
  freeBus : Nat
  /-- The model's own: the number of free busy samples drawn (log 2). -/
  freeBusy : Nat
  deriving DecidableEq, Repr

/-- Why the machine stops with a fault. The spec has no trap: its error kinds are results (60_exceptions.md R170). -/
inductive Fault where
  /-- Raised by the framebuffer store for a byte outside 20_memory.md R30's space. Safe: no request makes such an
  access, so it stops nothing the block does. -/
  | noSuchByte (plane : PlaneId) (index : Nat)
  deriving DecidableEq, Repr

/-- Why the machine has no meaning for what it is given. -/
inductive Refusal where
  /-- Raised by an arm of `exec` whose instruction has no meaning yet. Safe: nothing is claimed of it. No arm does. -/
  | notModelled (mnemonic : String)
  /-- Raised by `step` and `construct` when the configuration is ill-formed: no such block exists
  (10_state.md R11, 93_implementation_defined.md U13). Safe: the block is not defined there. -/
  | illFormedConfig
  /-- Raised by `step` for an encoding that is no request or descriptor of the block (30_encoding.md R73, R74).
  Safe: the spec defines no behaviour for it. -/
  | undecodable (e : DecodeError)
  /-- Raised by `write_ram`, and so by WRITE_RAM_BW and WRITE_RAM_RED, when the operand is not one whole plane (40_command_encoder.md R107,
  93_implementation_defined.md U14). Safe: the spec defines no behaviour for it. -/
  | wrongPlaneLength (plane : PlaneId)
  /-- Raised by `write_ram` and `as_bytes`, and so by WRITE_RAM_RED, for the red plane when `PLANES` = 1
  (30_encoding.md R73, U14). Safe: the spec defines no behaviour for it. -/
  | planeNotAllocated (plane : PlaneId)
  deriving DecidableEq, Repr

/-- The state after construction with configuration `c` (70_reset_and_hazards.md R200). DESIGN CHOICE: the values of
`rstOut` (log 8), `dcOut` (log 9), `req` (log 10) and the environment's fields (logs 2, 3). -/
def State.initial (c : Config) : State where
  cfg := c
  drvState := .uninitialized
  fb := ⟨[], []⟩
  rstOut := .deasserted
  dcOut := .command
  seq := .idle
  pollN := none
  req := ⟨0#3, 0#16, 0#16, 0#2, 0#1⟩
  result := none
  trace := []
  requests := []
  busAnswers := []
  busySamples := []
  freeBus := 0
  freeBusy := 0

/-- The machine right after reset: the construction with `resetConfig` (log 4). -/
def State.reset : State :=
  State.initial resetConfig

end Sys2Proof.Machine
end

