-- ==== Sys2Proof/Machine/Ops.lean ====
section
/-! DEFINITION. The named operations: reading and writing one byte of a plane (spec/20_memory.md R30, R31), the six
event primitives (R34 to R39) with the environment's answers (R33), `Send` (R40), `WaitIdle` and `ResetPulse`
(42_display_driver.md R146, R147), and how a request ends, with `Ok` or by `raise` (60_exceptions.md R178). -/

namespace Sys2Proof.Machine

/-! ### Framebuffer bytes -/

/-- The canonical form of a plane: addresses strictly rising, and no listed byte equal to what an unlisted address
reads as. -/
abbrev Memory.wf (m : Memory) : Prop :=
  m.Pairwise (fun a b => a.1 < b.1) ∧ ∀ cell ∈ m, cell.2 ≠ unlistedByte

/-- `MemRead((p, i), 1)` of one plane (00_scope.md R7). -/
def Memory.read : Memory → Nat → Byte
  | [], _ => unlistedByte
  | (a, b) :: rest, i => if a = i then b else Memory.read rest i

/-- `MemWrite((p, i), 1, v)` of one plane, keeping the canonical form (00_scope.md R7). -/
def Memory.write : Memory → Nat → Byte → Memory
  | [], i, v => if v = unlistedByte then [] else [(i, v)]
  | (a, b) :: rest, i, v =>
    if a < i then (a, b) :: Memory.write rest i v
    else if a = i then if v = unlistedByte then rest else (i, v) :: rest
    else if v = unlistedByte then (a, b) :: rest else (i, v) :: (a, b) :: rest

/-- Plane `p` of the framebuffer (10_state.md R14). -/
def Framebuffer.plane (fb : Framebuffer) : PlaneId → Memory
  | .bw => fb.bw
  | .red => fb.red

/-- `fb` with plane `p` replaced. -/
def Framebuffer.setPlane (fb : Framebuffer) (p : PlaneId) (m : Memory) : Framebuffer :=
  match p with
  | .bw => { fb with bw := m }
  | .red => { fb with red := m }

/-- `FB[p][i]` (00_scope.md R7). -/
def Framebuffer.read (fb : Framebuffer) (p : PlaneId) (i : Nat) : Byte :=
  (fb.plane p).read i

/-- `FB[p][i] <- v`, for a byte of 20_memory.md R30's space; any other byte does not exist and faults. -/
def Framebuffer.store (c : Config) (fb : Framebuffer) (p : PlaneId) (i : Nat) (v : Byte) :
    Except Fault Framebuffer :=
  if planeAllocated c p = true ∧ i < planeLen c then .ok (fb.setPlane p ((fb.plane p).write i v))
  else .error (.noSuchByte p i)

/-- A list of stores of one plane, first to last. -/
def Framebuffer.storeAll (c : Config) (p : PlaneId) : List (Nat × Byte) → Framebuffer → Except Fault Framebuffer
  | [], fb => .ok fb
  | (i, v) :: rest, fb =>
    match fb.store c p i v with
    | .ok fb' => Framebuffer.storeAll c p rest fb'
    | .error f => .error f

/-- `as_bytes(p)`: the `PLANE_LEN` bytes of plane `p` in index order (41_framebuffer.md R127). A plane that is not
allocated is refused (30_encoding.md R73, log 15). -/
def asBytes (c : Config) (fb : Framebuffer) (p : PlaneId) : Except Refusal (List Byte) :=
  if planeAllocated c p = true then .ok ((List.range (planeLen c)).map (fb.read p))
  else .error (.planeNotAllocated p)

/-! ### The environment's answers (20_memory.md R33) -/

/-- The answer the `n`-th `BusWrite` from now on gets. -/
def State.busAt (s : State) (n : Nat) : BusAnswer :=
  match s.busAnswers[n]? with
  | some a => a
  | none => Config.freeBusAnswer (s.freeBus + (n - s.busAnswers.length))

/-- The answer the `n`-th `BusyRead` from now on gets. -/
def State.busyAt (s : State) (n : Nat) : Bool :=
  match s.busySamples[n]? with
  | some b => b
  | none => Config.freeBusySample (s.freeBusy + (n - s.busySamples.length))

/-- The state once `n` bus answers have been used. -/
def State.skipBus (s : State) (n : Nat) : State :=
  { s with busAnswers := s.busAnswers.drop n, freeBus := s.freeBus + (n - s.busAnswers.length) }

/-- The state once `n` busy samples have been used. -/
def State.skipBusy (s : State) (n : Nat) : State :=
  { s with busySamples := s.busySamples.drop n, freeBusy := s.freeBusy + (n - s.busySamples.length) }

/-! ### The six primitives (20_memory.md R34 to R39) -/

/-- Appends one event to the trace (00_scope.md R8). -/
def emit (e : Event) (s : State) : State :=
  { s with trace := s.trace ++ [e] }

/-- `RstAssert()` (R34). -/
def rstAssert (s : State) : State :=
  { emit (.rst .asserted) s with rstOut := .asserted }

/-- `RstDeassert()` (R35). -/
def rstDeassert (s : State) : State :=
  { emit (.rst .deasserted) s with rstOut := .deasserted }

/-- `Delay(d)` (R36). -/
def delay (d : Duration) (s : State) : State :=
  emit (.delay d) s

/-- `SetMode(m)`, performed even when `DC_OUT` is already `m` (R37). -/
def setMode (m : SelectMode) (s : State) : State :=
  { emit (.mode m) s with dcOut := m }

/-- `BusWrite(bytes)`: the answer, and the state with the event appended and the answer used (R38). -/
def busWrite (bytes : List Byte) (s : State) : BusAnswer × State :=
  (s.busAt 0, emit (.write bytes (s.busAt 0)) (s.skipBus 1))

/-- `BusyRead()`: the answer, and the state with the event appended and the answer used (R39). -/
def busyRead (s : State) : Bool × State :=
  (s.busyAt 0, emit (.busy (s.busyAt 0)) (s.skipBusy 1))

/-! ### How a request goes on and how it ends (60_exceptions.md R178) -/

/-- What a part of a request comes to: the request goes on, or an error was raised in a state. -/
inductive Flow where
  | go (s : State)
  | stop (kind : ErrorKind) (s : State)
  deriving DecidableEq, Repr

/-- The next part of a request runs only when the part before it raised nothing (R178). -/
def Flow.andThen (fl : Flow) (next : State → Flow) : Flow :=
  match fl with
  | .go s => next s
  | .stop k s => .stop k s

/-- The request ends with result `r`: `SEQ` returns to idle and no wait is running (R178, 10_state.md R19, R20). -/
def endRequest (r : Result) (s : State) : State :=
  { s with seq := .idle, pollN := none, result := some r }

/-- `return Ok` (00_scope.md R7). -/
def returnOk (s : State) : State :=
  endRequest .ok s

/-- `raise <Kind>`: the one shared operation for every error. Nothing is saved, restored or cleaned up, and no event
is produced (R178). -/
def raiseError (k : ErrorKind) (s : State) : State :=
  endRequest (.err k) s

/-- The state a whole request ends in: `return Ok` when nothing was raised. -/
def Flow.finish : Flow → State
  | .go s => returnOk s
  | .stop k s => raiseError k s

/-- The state a part of a request leaves: the request is still running when nothing was raised. -/
def Flow.settle : Flow → State
  | .go s => s
  | .stop k s => raiseError k s

/-- `DRV_STATE <- st` (00_scope.md R7). -/
def writeDrvState (st : DrvState) (s : State) : State :=
  { s with drvState := st }

/-- `POLL_N <- 0` (42_display_driver.md R146). -/
def startPollCount (s : State) : State :=
  { s with pollN := some 0 }

/-- `POLL_N <- POLL_N + 1` (R146). -/
def countPoll (s : State) : State :=
  { s with pollN := s.pollN.map (· + 1) }

/-- The wait is over: `POLL_N` exists only during it (10_state.md R20). -/
def dropPollCount (s : State) : State :=
  { s with pollN := none }

/-! ### Send, WaitIdle, ResetPulse -/

/-- One bus transfer under its own mode: `SetMode(m)`, then one `BusWrite`, which raises `BusFailure` when it is
answered `err` (20_memory.md R40). -/
def transfer (m : SelectMode) (bytes : List Byte) (s : State) : Flow :=
  match busWrite bytes (setMode m s) with
  | (.ok, s') => .go s'
  | (.err, s') => .stop .busFailure s'

/-- `Send(d)`: the opcode byte under `Command`; then the data bytes, when there are any, as one transfer under `Data`
(20_memory.md R40). PRESUMED, log 12: which mode goes with which part (GK3). -/
def send (d : Descriptor) (s : State) : Flow :=
  (transfer .command [d.op] s).andThen fun s' =>
    match d.data with
    | [] => .go s'
    | b :: rest => transfer .data (b :: rest) s'

/-- `Send` of each descriptor of a list, in order (42_display_driver.md R142, R144). -/
def sendAll : List Descriptor → State → Flow
  | [], s => .go s
  | d :: rest, s => (send d s).andThen (sendAll rest)

/-- The loop of `WaitIdle` with `n` samples left: sample; not busy ends it; busy counts, and is a `Timeout` when it
was the last sample allowed, else is followed by `Delay(T_POLL)` (42_display_driver.md R146). With no sample allowed
at all (`MAX_POLLS` = 0, which is ill-formed, log 21) it is a `Timeout` at once. -/
def pollLoop : Nat → State → Flow
  | 0, s => .stop .timeout s
  | n + 1, s =>
    match busyRead s with
    | (false, s') => .go s'
    | (true, s') =>
      if n = 0 then .stop .timeout (countPoll s') else pollLoop n (delay .poll (countPoll s'))

/-- `WaitIdle()` (42_display_driver.md R146); `POLL_N` exists only during it (10_state.md R20). -/
def waitIdle (s : State) : Flow :=
  (pollLoop s.cfg.maxPolls (startPollCount s)).andThen fun s' => .go (dropPollCount s')

/-- `ResetPulse()` (42_display_driver.md R147). -/
def resetPulse (s : State) : State :=
  delay .resetSettle (rstDeassert (delay .resetHold (rstAssert s)))

/-- Construction with configuration `c` (70_reset_and_hazards.md R200): an ill-formed configuration is refused. -/
def construct (c : Config) : Host.Outcome State Fault Refusal :=
  if c.WellFormed then .next (State.initial c) else .refused .illFormedConfig

end Sys2Proof.Machine
end

