-- ==== Sys2Proof/Machine/Operands.lean ====
section
/-! DEFINITION. The operand forms: a colour as one bit per plane (spec/41_framebuffer.md R121), writing a pixel's
bits (R125), the bytes CLEAR writes (R126), reading a pixel back (R128), the spec's own numeric codes (10_state.md
R12, 30_encoding.md R65, R66) and the value of a duration (00_scope.md R5). -/

namespace Sys2Proof.Machine

/-- `enc(colour)` = (`b0`, `b1`), the bits of plane 0 and plane 1 (41_framebuffer.md R121). -/
def encodeColor : Color → Bool × Bool
  | .white => (false, false)
  | .black => (true, false)
  | .red => (false, true)

/-- The colour whose encoding is (`b0`, `b1`); the pair (1, 1) has none
(R128 says it cannot arise, log 25). -/
def colorOfBits : Bool → Bool → Option Color
  | false, false => some .white
  | true, false => some .black
  | false, true => some .red
  | true, true => none

/-- The bit `enc(colour)` gives plane `p` (R121). -/
def planeBit (col : Color) : PlaneId → Bool
  | .bw => (encodeColor col).1
  | .red => (encodeColor col).2

/-- A byte with the bits of mask `m` set or cleared: `b | m` or `b & ~m` (R125). -/
def putBit (set : Bool) (m b : Byte) : Byte :=
  if set then b ||| m else b &&& ~~~m

/-- The stores of SET_PIXEL at byte `i`, mask `m`: plane 0, and plane 1 when there is one (R125). -/
def storePixel (c : Config) (fb : Framebuffer) (i : Nat) (m : Byte) (col : Color) : Except Fault Framebuffer :=
  match fb.store c .bw i (putBit (planeBit col .bw) m (fb.read .bw i)) with
  | .error f => .error f
  | .ok fb' =>
    match c.planes with
    | .one => .ok fb'
    | .two => fb'.store c .red i (putBit (planeBit col .red) m (fb'.read .red i))

/-- The byte CLEAR writes in column `col` of a row: 0x00 for bit 0; for bit 1 all ones, but in the last column only
the in-width bits (R126). -/
def fillByte (c : Config) (bit : Bool) (col : Nat) : Byte :=
  if bit then if col = bpr c - 1 then lastByteMask c else 0xFF#8 else 0x00#8

/-- The stores of CLEAR in one plane, row by row and column by column (R126). -/
def fillCells (c : Config) (bit : Bool) : List (Nat × Byte) :=
  (List.range c.height).flatMap fun py => (List.range (bpr c)).map fun col => (py * bpr c + col, fillByte c bit col)

/-- CLEAR's stores in every allocated plane, plane 0 first (R126). -/
def storeFill (c : Config) (fb : Framebuffer) (col : Color) : Except Fault Framebuffer :=
  match fb.storeAll c .bw (fillCells c (planeBit col .bw)) with
  | .error f => .error f
  | .ok fb' =>
    match c.planes with
    | .one => .ok fb'
    | .two => fb'.storeAll c .red (fillCells c (planeBit col .red))

/-- The stored bit of plane `p` at physical pixel (`px`, `py`). -/
def pixelBit (c : Config) (fb : Framebuffer) (p : PlaneId) (px py : Nat) : Bool :=
  fb.read p (locate c px py).1 &&& (locate c px py).2 != 0x00#8

/-- `get_pixel(x, y)`, an observation and not a request (R128). It is defined inside the logical extent only.
DESIGN CHOICE, log 25: outside it the answer is none, as for the pair (1, 1). -/
def getPixel (c : Config) (fb : Framebuffer) (x y : Nat) : Option Color :=
  if x < logicalWidth c ∧ y < logicalHeight c then
    let (px, py) := rotate c x y
    colorOfBits (pixelBit c fb .bw px py) (planeAllocated c .red && pixelBit c fb .red px py)
  else none

/-- `DRV_STATE` codes (10_state.md R12). -/
def drvStateCode : DrvState → BitVec 2
  | .uninitialized => 0#2
  | .ready => 1#2
  | .updating => 2#2
  | .sleeping => 3#2

/-- Rotation codes (30_encoding.md R65). -/
def rotationCode : Rotation → BitVec 2
  | .r0 => 0#2
  | .r90 => 1#2
  | .r180 => 2#2
  | .r270 => 3#2

/-- Plane identifiers (30_encoding.md R65). -/
def planeCode : PlaneId → BitVec 1
  | .bw => 0#1
  | .red => 1#1

/-- The value of the duration a `DELAY` event names (00_scope.md R5). -/
def durationValue (c : Config) : Duration → Nat
  | .resetHold => c.tResetHold
  | .resetSettle => c.tResetSettle
  | .poll => c.tPoll

end Sys2Proof.Machine
end

