-- ==== Sys2Proof/Machine/Flags.lean ====
section
/-! DEFINITION. The block has no condition codes and no sticky flag (spec/10_state.md R21); what stands in their place
is the result of a request. Here are its codes (30_encoding.md R66) and the checks that decide it before any event
(60_exceptions.md R180, R181). -/

namespace Sys2Proof.Machine

/-- Result codes (30_encoding.md R66); 7 is never produced. -/
def resultCode : Result → BitVec 3
  | .ok => 0#3
  | .err .busFailure => 1#3
  | .err .timeout => 2#3
  | .err .invalidState => 3#3
  | .err .invalidRegion => 4#3
  | .err .outOfBounds => 5#3
  | .err .unsupportedColor => 6#3

/-- Whether the colour has its plane: `Red` needs `PLANES` = 2 (60_exceptions.md R176). -/
def colorSupported (c : Config) (col : Color) : Bool :=
  match col, c.planes with
  | .red, .one => false
  | _, _ => true

/-- Whether the logical coordinate is inside the logical extent (60_exceptions.md R175). -/
def inBounds (c : Config) (x y : Nat) : Bool :=
  decide (x < logicalWidth c) && decide (y < logicalHeight c)

/-- Whether the rectangle is one `set_ram_window` accepts: inside `W` by `H` and not inverted
(40_command_encoder.md R106). -/
def regionValid (w h x0 y0 x1 y1 : Nat) : Bool :=
  !(decide (x0 > x1) || decide (y0 > y1) || decide (x1 ≥ w) || decide (y1 ≥ h))

/-- The state check of UPDATE and SLEEP (60_exceptions.md R173). -/
def stateReady (s : State) : Bool :=
  s.drvState == .ready

end Sys2Proof.Machine
end

