-- ==== Sys2Proof/Machine/Encoder.lean ====
section
/-! DEFINITION. The five functions of the Command Encoder (spec/40_command_encoder.md R103 to R109): pure functions of
their arguments and the configuration (R90). -/

namespace Sys2Proof.Machine

/-- `initialization_sequence(W, H, ROT)` (R103): seven descriptors in this order (R104); `ROT` changes nothing
(R105). -/
def initializationSequence (c : Config) (w h : Nat) (_rot : Rotation) : List Descriptor :=
  [driverOutputControl c (rowOf (h - 1)) c.val.gateScan, dataEntryMode c c.val.dataEntry,
    ramXRange c (columnOf 0) (columnOf (w - 1)), ramYRange c (rowOf 0) (rowOf (h - 1)),
    borderWaveform c c.val.border, tempSensor c c.val.tempSensor, updateCtrl1 c c.val.updateCtrl1A c.val.updateCtrl1B]

/-- `set_ram_window(x0, y0, x1, y1)` (R106): corners inclusive, X as byte columns (20_memory.md R43). -/
def setRamWindow (c : Config) (x0 y0 x1 y1 : Nat) : Except ErrorKind (List Descriptor) :=
  if regionValid c.width c.height x0 y0 x1 y1 then
    .ok [ramXRange c (columnOf x0) (columnOf x1), ramYRange c (rowOf y0) (rowOf y1)]
  else .error .invalidRegion

/-- `write_ram(plane_id, bytes)` (R107). A plane that is not allocated (30_encoding.md R73), and bytes that are not
one whole plane, are no call of the block and are refused (log 15). -/
def writeRam (c : Config) (p : PlaneId) (bytes : List Byte) : Except Refusal Descriptor :=
  if planeAllocated c p = false then .error (.planeNotAllocated p)
  else if bytes.length = planeLen c then
    match p with
    | .bw => .ok (writeRamBw c bytes)
    | .red => .ok (writeRamRed c bytes)
  else .error (.wrongPlaneLength p)

/-- `write_ram(p, as_bytes(p))` (42_display_driver.md R144). -/
def planeDescriptor (c : Config) (fb : Framebuffer) (p : PlaneId) : Except Refusal Descriptor :=
  match asBytes c fb p with
  | .ok bytes => writeRam c p bytes
  | .error r => .error r

/-- The plane descriptors of UPDATE: plane 0, and plane 1 when there is one (42_display_driver.md R144). -/
def planeDescriptors (c : Config) (fb : Framebuffer) : Except Refusal (List Descriptor) :=
  match planeDescriptor c fb .bw with
  | .error r => .error r
  | .ok bw =>
    match c.planes with
    | .one => .ok [bw]
    | .two =>
      match planeDescriptor c fb .red with
      | .error r => .error r
      | .ok red => .ok [bw, red]

/-- The byte UPDATE_CTRL_2 carries for a mode (R98). -/
def updateSelection (c : Config) : RefreshMode → Byte
  | .fullRefresh => c.val.updateFull
  | .partialRefresh => c.val.updatePartial

/-- `trigger_update(mode)` (R108). -/
def triggerUpdate (c : Config) (mode : RefreshMode) : List Descriptor :=
  [updateCtrl2 c (updateSelection c mode), masterActivation c]

/-- `sleep_sequence()` (R109). -/
def sleepSequence (c : Config) : List Descriptor :=
  [deepSleep c c.val.deepSleep]

end Sys2Proof.Machine
end

