-- ==== Sys2Proof/Machine/Commands.lean ====
section
/-! DEFINITION. The meaning of the twelve command descriptors: each is the `Send` of its bytes (spec/20_memory.md R40,
40_command_encoder.md R91 to R102). A descriptor writes no state of its own but the select line and the trace; a
failed transfer raises `BusFailure`. -/

namespace Sys2Proof.Machine

/-- One descriptor put on the bus: the running request goes on, or ends with `BusFailure` (20_memory.md R40). -/
def runDescriptor (d : Descriptor) (s : State) : Host.Outcome State Fault Refusal :=
  .next (send d s).settle

/-- DRIVER_OUTPUT_CONTROL (R91). -/
def execDriverOutputControl (lines : Half) (scan : Byte) (s : State) : Host.Outcome State Fault Refusal :=
  runDescriptor (driverOutputControl s.cfg lines scan) s

/-- DATA_ENTRY_MODE (R92). -/
def execDataEntryMode (v : Byte) (s : State) : Host.Outcome State Fault Refusal :=
  runDescriptor (dataEntryMode s.cfg v) s

/-- RAM_X_RANGE (R93). -/
def execRamXRange (xs xe : Byte) (s : State) : Host.Outcome State Fault Refusal :=
  runDescriptor (ramXRange s.cfg xs xe) s

/-- RAM_Y_RANGE (R94). -/
def execRamYRange (ys ye : Half) (s : State) : Host.Outcome State Fault Refusal :=
  runDescriptor (ramYRange s.cfg ys ye) s

/-- BORDER_WAVEFORM (R95). -/
def execBorderWaveform (v : Byte) (s : State) : Host.Outcome State Fault Refusal :=
  runDescriptor (borderWaveform s.cfg v) s

/-- TEMP_SENSOR (R96). -/
def execTempSensor (v : Byte) (s : State) : Host.Outcome State Fault Refusal :=
  runDescriptor (tempSensor s.cfg v) s

/-- UPDATE_CTRL_1 (R97). -/
def execUpdateCtrl1 (a b : Byte) (s : State) : Host.Outcome State Fault Refusal :=
  runDescriptor (updateCtrl1 s.cfg a b) s

/-- UPDATE_CTRL_2 (R98). -/
def execUpdateCtrl2 (u : Byte) (s : State) : Host.Outcome State Fault Refusal :=
  runDescriptor (updateCtrl2 s.cfg u) s

/-- MASTER_ACTIVATION (R99); `DRV_STATE <- Updating` is UPDATE's own act after it (42_display_driver.md R148). -/
def execMasterActivation (s : State) : Host.Outcome State Fault Refusal :=
  runDescriptor (masterActivation s.cfg) s

/-- A RAM write put on the bus, or refused where `write_ram` is (R107, log 15). -/
def runRamWrite (p : PlaneId) (bytes : List Byte) (s : State) : Host.Outcome State Fault Refusal :=
  match writeRam s.cfg p bytes with
  | .ok d => runDescriptor d s
  | .error r => .refused r

/-- WRITE_RAM_BW (R100): the operand is exactly one plane. -/
def execWriteRamBw (bytes : List Byte) (s : State) : Host.Outcome State Fault Refusal :=
  runRamWrite .bw bytes s

/-- WRITE_RAM_RED (R101): only when `PLANES` = 2, and the operand is exactly one plane. -/
def execWriteRamRed (bytes : List Byte) (s : State) : Host.Outcome State Fault Refusal :=
  runRamWrite .red bytes s

/-- DEEP_SLEEP (R102); `DRV_STATE <- Sleeping` is SLEEP's own act after it (42_display_driver.md R145). -/
def execDeepSleep (v : Byte) (s : State) : Host.Outcome State Fault Refusal :=
  runDescriptor (deepSleep s.cfg v) s

end Sys2Proof.Machine
end

