-- ==== Sys2Proof/Machine/Driver.lean ====
section
/-! DEFINITION. The meaning of the three sequencing requests, INIT, UPDATE and SLEEP, each run whole
(spec/42_display_driver.md R142, R144, R145; 10_state.md R19 allows it, log 1). -/

namespace Sys2Proof.Machine

/-- The body of INIT (R142): reset pulse, wait, the seven descriptors, then `Ready`. -/
def initFlow (s : State) : Flow :=
  ((waitIdle (resetPulse s)).andThen
      (sendAll (initializationSequence s.cfg s.cfg.width s.cfg.height s.cfg.rot))).andThen
    fun s' => .go (writeDrvState .ready s')

/-- INIT (R142), accepted in every driver state (R143). -/
def execInit (s : State) : Host.Outcome State Fault Refusal :=
  .next (initFlow s).finish

/-- The body of UPDATE after its state check (R144): window, the given plane descriptors, trigger, `Updating`, wait,
`Ready`. -/
def updateFlow (mode : RefreshMode) (planes : List Descriptor) (s : State) : Flow :=
  match setRamWindow s.cfg 0 0 (s.cfg.width - 1) (s.cfg.height - 1) with
  | .error k => .stop k s
  | .ok window =>
    ((((sendAll window s).andThen (sendAll planes)).andThen (sendAll (triggerUpdate s.cfg mode))).andThen
        fun s' => waitIdle (writeDrvState .updating s')).andThen
      fun s' => .go (writeDrvState .ready s')

/-- UPDATE `mode` (R144). The planes are read before the first `Send`, which is as they stand at their own: UPDATE does
not modify the framebuffer (R152). They are the allocated ones, so the refusal is never reached
(`planeDescriptors_eq`). -/
def execUpdate (mode : RefreshMode) (s : State) : Host.Outcome State Fault Refusal :=
  if stateReady s = false then .next (raiseError .invalidState s)
  else
    match planeDescriptors s.cfg s.fb with
    | .ok planes => .next (updateFlow mode planes s).finish
    | .error r => .refused r

/-- The body of SLEEP after its state check (R145). -/
def sleepFlow (s : State) : Flow :=
  (sendAll (sleepSequence s.cfg) s).andThen fun s' => .go (writeDrvState .sleeping s')

/-- SLEEP (R145). -/
def execSleep (s : State) : Host.Outcome State Fault Refusal :=
  if stateReady s = false then .next (raiseError .invalidState s) else .next (sleepFlow s).finish

end Sys2Proof.Machine
end

