-- ==== Sys2Proof/Machine/Pixels.lean ====
section
/-! DEFINITION. The meaning of the two framebuffer requests, SET_PIXEL and CLEAR (spec/41_framebuffer.md R125, R126).
Neither produces an event or reads or writes `DRV_STATE` (R120). -/

namespace Sys2Proof.Machine

/-- The request ends with `Ok` and the stored framebuffer; a store outside the framebuffer faults. -/
def keepFramebuffer (stored : Except Fault Framebuffer) (s : State) : Host.Outcome State Fault Refusal :=
  match stored with
  | .ok fb => .next (returnOk { s with fb := fb })
  | .error f => .fault f

/-- SET_PIXEL `x` `y` `colour` (R125): the colour check, the bounds check, then one bit in every allocated plane. -/
def execSetPixel (x y : Half) (colour : Color) (s : State) : Host.Outcome State Fault Refusal :=
  if colorSupported s.cfg colour = false then .next (raiseError .unsupportedColor s)
  else if inBounds s.cfg x.toNat y.toNat = false then .next (raiseError .outOfBounds s)
  else
    let p := rotate s.cfg x.toNat y.toNat
    let loc := locate s.cfg p.1 p.2
    keepFramebuffer (storePixel s.cfg s.fb loc.1 loc.2 colour) s

/-- CLEAR `colour` (R126): the colour check, then every byte of every allocated plane. -/
def execClear (colour : Color) (s : State) : Host.Outcome State Fault Refusal :=
  if colorSupported s.cfg colour = false then .next (raiseError .unsupportedColor s)
  else keepFramebuffer (storeFill s.cfg s.fb colour) s

end Sys2Proof.Machine
end

