-- ==== Sys2Proof/Machine/Dispatch.lean ====
section
/-! DEFINITION. One arm per instruction, each the call of its meaning. -/

namespace Sys2Proof.Machine

def exec (i : Instr) (s : State) : Host.Outcome State Fault Refusal :=
  match i with
  | .driverOutputControl lines scan => Sys2Proof.Machine.execDriverOutputControl lines scan s
  | .dataEntryMode v => Sys2Proof.Machine.execDataEntryMode v s
  | .ramXRange xs xe => Sys2Proof.Machine.execRamXRange xs xe s
  | .ramYRange ys ye => Sys2Proof.Machine.execRamYRange ys ye s
  | .borderWaveform v => Sys2Proof.Machine.execBorderWaveform v s
  | .tempSensor v => Sys2Proof.Machine.execTempSensor v s
  | .updateCtrl1 a b => Sys2Proof.Machine.execUpdateCtrl1 a b s
  | .updateCtrl2 u => Sys2Proof.Machine.execUpdateCtrl2 u s
  | .masterActivation => Sys2Proof.Machine.execMasterActivation s
  | .writeRamBw bytes => Sys2Proof.Machine.execWriteRamBw bytes s
  | .writeRamRed bytes => Sys2Proof.Machine.execWriteRamRed bytes s
  | .deepSleep v => Sys2Proof.Machine.execDeepSleep v s
  | .init => Sys2Proof.Machine.execInit s
  | .setPixel x y colour => Sys2Proof.Machine.execSetPixel x y colour s
  | .clear colour => Sys2Proof.Machine.execClear colour s
  | .update mode => Sys2Proof.Machine.execUpdate mode s
  | .sleep => Sys2Proof.Machine.execSleep s

end Sys2Proof.Machine
end

