-- ==== Sys2Proof/Machine/Sequencer.lean ====
section
/-! DEFINITION. The sequencer that moves one primitive or one descriptor at a time (spec/10_state.md R19): the tasks
of INIT, UPDATE and SLEEP, performing a primitive, and fetching what comes next. -/

namespace Sys2Proof.Machine

/-- The tasks of `ResetPulse` (42_display_driver.md R147). -/
def resetPulseTasks : List Task :=
  [.prim .rstAssert, .prim (.delay .resetHold), .prim .rstDeassert, .prim (.delay .resetSettle)]

/-- The tasks of `WaitIdle` (R146). -/
def waitIdleTasks : List Task :=
  [.prim .pollStart, .prim .poll]

/-- The tasks of INIT (R142). -/
def initTasks (c : Config) : List Task :=
  resetPulseTasks ++ waitIdleTasks ++ (initializationSequence c c.width c.height c.rot).map .send ++
    [.prim (.writeDrv .ready)]

/-- The plane tasks of UPDATE (R144). -/
def planeTasks (c : Config) : List Task :=
  match c.planes with
  | .one => [.sendPlane .bw]
  | .two => [.sendPlane .bw, .sendPlane .red]

/-- The tasks of UPDATE after its state check, with a given window (R144). -/
def updateTasks (c : Config) (window : List Descriptor) (mode : RefreshMode) : List Task :=
  window.map .send ++ planeTasks c ++ (triggerUpdate c mode).map .send ++ [.prim (.writeDrv .updating)] ++
    waitIdleTasks ++ [.prim (.writeDrv .ready)]

/-- The tasks of SLEEP after its state check (R145). -/
def sleepTasks (c : Config) : List Task :=
  (sleepSequence c).map .send ++ [.prim (.writeDrv .sleeping)]

/-- The request is running, with these tasks before it. -/
def startTasks (tasks : List Task) (s : State) : State :=
  { s with seq := .running tasks, result := none }

/-- INIT at its first task. -/
def beginInit (s : State) : State :=
  startTasks (initTasks s.cfg) s

/-- UPDATE at its first task, or ended by its state check. -/
def beginUpdate (mode : RefreshMode) (s : State) : State :=
  if stateReady s = false then raiseError .invalidState s
  else
    match setRamWindow s.cfg 0 0 (s.cfg.width - 1) (s.cfg.height - 1) with
    | .error k => raiseError k s
    | .ok window => startTasks (updateTasks s.cfg window mode) s

/-- SLEEP at its first task, or ended by its state check. -/
def beginSleep (s : State) : State :=
  if stateReady s = false then raiseError .invalidState s else startTasks (sleepTasks s.cfg) s

/-- One turn of `WaitIdle`'s loop, with `rest` still to perform after the wait (R146). -/
def performPoll (rest : List Task) (s : State) : State :=
  match busyRead s with
  | (false, s') => { dropPollCount s' with seq := .running rest }
  | (true, s') =>
    if (countPoll s').pollN = some s.cfg.maxPolls then raiseError .timeout (countPoll s')
    else { countPoll s' with seq := .running (.prim (.delay .poll) :: .prim .poll :: rest) }

/-- One primitive, with `rest` still to perform after it. -/
def performPrim (p : Prim) (rest : List Task) (s : State) : State :=
  match p with
  | .rstAssert => { rstAssert s with seq := .running rest }
  | .rstDeassert => { rstDeassert s with seq := .running rest }
  | .delay d => { delay d s with seq := .running rest }
  | .pollStart => { startPollCount s with seq := .running rest }
  | .poll => performPoll rest s
  | .writeDrv st => { writeDrvState st s with seq := .running rest }

/-- What a step finds to do. -/
inductive Fetched where
  /-- Nothing: the block is idle and no request waits (42_display_driver.md R140). -/
  | nothing
  /-- An encoded instruction, and the state it has been taken from. -/
  | instruction (e : Encoded) (s : State)
  /-- A primitive or the end of a request, already performed. -/
  | performed (s : State)
  /-- A plane that is not allocated (30_encoding.md R73, log 15); no request has it among its tasks. -/
  | noMeaning (r : Refusal)

/-- The operand registers as the host writes them when it presents request `r` (10_state.md R10), with `rest` the
requests it will present later. -/
def presentRequest (r : Request) (rest : List Request) (s : State) : State :=
  { s with req := r, requests := rest }

/-- What comes next (10_state.md R19): idle, the host's next request (70_reset_and_hazards.md R206: none is taken
while one runs); inside a request, its next task; with no task left, `return Ok`. -/
def fetch (s : State) : Fetched :=
  match s.seq with
  | .idle =>
    match s.requests with
    | [] => .nothing
    | r :: rest => .instruction (.req r) (presentRequest r rest s)
  | .running [] => .performed (returnOk s)
  | .running (.send d :: rest) => .instruction (.cmd d) { s with seq := .running rest }
  | .running (.sendPlane p :: rest) =>
    match planeDescriptor s.cfg s.fb p with
    | .ok d => .instruction (.cmd d) { s with seq := .running rest }
    | .error r => .noMeaning r
  | .running (.prim p :: rest) => .performed (performPrim p rest s)

/-- The state in which the next fetch finds exactly instruction `e`: a request is the only one the host will present
to the idle block; a descriptor is the one task left of a running request (log 18). -/
def placeNext (e : Encoded) (s : State) : State :=
  match e with
  | .req r => { s with seq := .idle, requests := [r] }
  | .cmd d => { s with seq := .running [.send d] }

end Sys2Proof.Machine
end

