-- ==== Sys2Proof/Machine/Step.lean ====
section
/-! DEFINITION. One step: the block is defined only for a well-formed configuration (spec/10_state.md R11); it fetches
what comes next, decodes an instruction and runs it. -/

namespace Sys2Proof.Machine

/-- One step of the block. From idle it is one whole host request (log 1); inside a request it is one primitive or
one descriptor. -/
def step (s : State) : Host.Outcome State Fault Refusal :=
  if s.cfg.WellFormed then
    match fetch s with
    | .nothing => .next s
    | .performed s' => .next s'
    | .noMeaning r => .refused r
    | .instruction e s' =>
      match decode s.cfg e with
      | .ok i => exec i s'
      | .error err => .refused (.undecodable err)
  else .refused .illFormedConfig

/-- `s` with the instruction of `nbits` bits `w`, the bits above zero, standing where `step` finds its next
instruction (log 18). -/
def State.withFetchWord (s : State) (nbits w : Nat) : State :=
  placeNext (layoutTableWord s.cfg nbits w) s

end Sys2Proof.Machine
end

