-- ==== Sys2Proof/Safety.lean ====
section
/-! DEFINITION. The terms statements are written in: the bus transfers the spec lists for each request and descriptor,
as plain bytes (spec/30_encoding.md R72, 40_command_encoder.md R103, 42_display_driver.md R144), the events of
transfers and waits (20_memory.md R40, 42_display_driver.md R146, R147), and the invariant of the framebuffer
(10_state.md R15, 41_framebuffer.md R128). Nothing here is called by the machine. -/

namespace Sys2Proof.Machine

/-! ### Transfers and their events -/

/-- One bus transfer: the select mode it goes out under, and its bytes. -/
abbrev Transfer := SelectMode × List Byte

/-- A 16-bit payload value, low byte first (20_memory.md R42). -/
def bytePair (v : Nat) : List Byte :=
  [BitVec.ofNat 8 v, BitVec.ofNat 8 (v / 256)]

/-- The transfers of `CMD(op){data}`: the opcode under `Command`, the data, if any, under `Data`. -/
def transfersOf (op : Byte) (data : List Byte) : List Transfer :=
  (.command, [op]) :: (if data = [] then [] else [(.data, data)])

/-- The fourteen transfers of INIT's boot sequence, in order. -/
def initTransfers (c : Config) : List Transfer :=
  transfersOf c.opc.driverOutput (bytePair (c.height - 1) ++ [c.val.gateScan]) ++
    transfersOf c.opc.dataEntry [c.val.dataEntry] ++
    transfersOf c.opc.ramXRange [0x00#8, BitVec.ofNat 8 ((c.width - 1) / 8)] ++
    transfersOf c.opc.ramYRange ([0x00#8, 0x00#8] ++ bytePair (c.height - 1)) ++
    transfersOf c.opc.borderWaveform [c.val.border] ++
    transfersOf c.opc.tempSensor [c.val.tempSensor] ++
    transfersOf c.opc.updateCtrl1 [c.val.updateCtrl1A, c.val.updateCtrl1B]

/-- The bytes of plane `p` in index order, byte 0 first (20_memory.md R41). -/
def planeBytes (c : Config) (fb : Framebuffer) (p : PlaneId) : List Byte :=
  (List.range (planeLen c)).map (fb.read p)

/-- The plane transfers of UPDATE: plane 0, and plane 1 when there is one. -/
def planeTransfers (c : Config) (fb : Framebuffer) : List Transfer :=
  transfersOf c.opc.writeRamBw (planeBytes c fb .bw) ++
    match c.planes with
    | .one => []
    | .two => transfersOf c.opc.writeRamRed (planeBytes c fb .red)

/-- The transfers of UPDATE: nine with one plane, eleven with two. -/
def updateTransfers (c : Config) (fb : Framebuffer) (mode : RefreshMode) : List Transfer :=
  transfersOf c.opc.ramXRange [0x00#8, BitVec.ofNat 8 ((c.width - 1) / 8)] ++
    transfersOf c.opc.ramYRange ([0x00#8, 0x00#8] ++ bytePair (c.height - 1)) ++
    planeTransfers c fb ++
    transfersOf c.opc.updateCtrl2
      [match mode with
        | .fullRefresh => c.val.updateFull
        | .partialRefresh => c.val.updatePartial] ++
    transfersOf c.opc.masterActivation []

/-- The transfers of SLEEP. -/
def sleepTransfers (c : Config) : List Transfer :=
  transfersOf c.opc.deepSleep [c.val.deepSleep]

/-- The events of transfers that are all answered `ok`. -/
def okEvents : List Transfer → List Event
  | [] => []
  | (m, bytes) :: rest => .mode m :: .write bytes .ok :: okEvents rest

/-- The events of transfers of which number `n` is the first answered `err`: nothing follows it. -/
def failEvents : List Transfer → Nat → List Event
  | [], _ => []
  | (m, bytes) :: _, 0 => [.mode m, .write bytes .err]
  | (m, bytes) :: rest, n + 1 => .mode m :: .write bytes .ok :: failEvents rest n

/-- The select mode of the last transfer, or `m` when there is none. -/
def lastMode (m : SelectMode) : List Transfer → SelectMode
  | [] => m
  | t :: rest => lastMode t.1 rest

/-- The events of a wait that sees `k` busy samples and then one that is not. -/
def waitEvents : Nat → List Event
  | 0 => [.busy false]
  | k + 1 => .busy true :: .delay .poll :: waitEvents k

/-- The events of a wait that sees `n` busy samples and gives up: no delay after the last. -/
def timeoutEvents : Nat → List Event
  | 0 => []
  | 1 => [.busy true]
  | n + 2 => .busy true :: .delay .poll :: timeoutEvents (n + 1)

/-- The events of the reset pulse. -/
def pulseEvents : List Event :=
  [.rst .asserted, .delay .resetHold, .rst .deasserted, .delay .resetSettle]

/-- `s` after transfers that were all answered `ok`: only the trace, the select line and the bus's answers move. -/
def afterTransfers (ts : List Transfer) (s : State) : State :=
  { s.skipBus ts.length with trace := s.trace ++ okEvents ts, dcOut := lastMode s.dcOut ts }

/-- `s` after transfers of which number `n` was the first answered `err`, before the error ends the request. -/
def afterFailedTransfer (ts : List Transfer) (n : Nat) (s : State) : State :=
  { s.skipBus (n + 1) with trace := s.trace ++ failEvents ts n, dcOut := lastMode s.dcOut (ts.take (n + 1)) }

/-- `s` after a wait that used `used` samples and produced `events`. -/
def afterWait (used : Nat) (events : List Event) (s : State) : State :=
  { s.skipBusy used with trace := s.trace ++ events, pollN := none }

/-- `s` after the reset pulse. -/
def afterPulse (s : State) : State :=
  { s with trace := s.trace ++ pulseEvents, rstOut := .deasserted }

/-- `s` with its request ended by result `r` and nothing else touched. -/
def ended (r : Result) (s : State) : State :=
  { s with seq := .idle, pollN := none, result := some r }

/-! ### What the environment answers -/

/-- The next `n` bus transfers are all answered `ok`. -/
def BusOk (s : State) (n : Nat) : Prop :=
  ∀ j < n, s.busAt j = .ok

/-- Bus transfer number `n` from now is the first one answered `err`. -/
def BusFailsAt (s : State) (n : Nat) : Prop :=
  (∀ j < n, s.busAt j = .ok) ∧ s.busAt n = .err

/-- The next wait sees `k` busy samples and then one that is not, within the bound. -/
def IdleAfter (s : State) (k : Nat) : Prop :=
  k < s.cfg.maxPolls ∧ (∀ j < k, s.busyAt j = true) ∧ s.busyAt k = false

/-- The next wait sees only busy samples. -/
def StuckBusy (s : State) : Prop :=
  ∀ j < s.cfg.maxPolls, s.busyAt j = true

/-! ### The framing of a trace -/

/-- Every bus transfer stands right after the setting of its mode, is not empty, and is one byte under `Command`; no
mode is set without a transfer (20_memory.md R40, 30_encoding.md R67). -/
def wellFramed : List Event → Bool
  | [] => true
  | .mode .command :: .write bytes _ :: rest => bytes.length == 1 && wellFramed rest
  | .mode .data :: .write bytes _ :: rest => !bytes.isEmpty && wellFramed rest
  | .mode _ :: _ => false
  | .write _ _ :: _ => false
  | .rst _ :: rest => wellFramed rest
  | .delay _ :: rest => wellFramed rest
  | .busy _ :: rest => wellFramed rest

/-- The byte sequences transferred under `Command`. -/
def commandTransfers : List Event → List (List Byte)
  | [] => []
  | .mode .command :: .write bytes _ :: rest => bytes :: commandTransfers rest
  | _ :: rest => commandTransfers rest

/-- Whether a trace holds a reset-line event. -/
def hasResetEvent (events : List Event) : Bool :=
  events.any fun e =>
    match e with
    | .rst _ => true
    | _ => false

/-- The time the delays of a trace ask for, in the configuration's own unit (00_scope.md R5). -/
def totalDelay (c : Config) : List Event → Nat
  | [] => 0
  | .delay d :: rest => durationValue c d + totalDelay c rest
  | _ :: rest => totalDelay c rest

/-- Whether the instruction is a host request (format REQ, 30_encoding.md R60). -/
def isRequest : Instr → Bool
  | .init | .setPixel _ _ _ | .clear _ | .update _ | .sleep => true
  | .driverOutputControl _ _ | .dataEntryMode _ | .ramXRange _ _ | .ramYRange _ _ | .borderWaveform _
  | .tempSensor _ | .updateCtrl1 _ _ | .updateCtrl2 _ | .masterActivation | .writeRamBw _ | .writeRamRed _
  | .deepSleep _ => false

/-! ### Invariants -/

/-- Padding bits are 0: with `r` = `W % 8` not 0, bits `7 - r` down to 0 of the last byte of every row
(10_state.md R15). -/
def PaddingClear (c : Config) (fb : Framebuffer) (p : PlaneId) : Prop :=
  c.width % 8 ≠ 0 → ∀ row < c.height, ∀ j < 8 - c.width % 8,
    (fb.read p (row * bpr c + (bpr c - 1))).getLsbD j = false

/-- No pixel is stored as the pair (1, 1) (41_framebuffer.md R128). -/
def NoBothBits (fb : Framebuffer) : Prop :=
  ∀ i j, ¬ ((fb.read .bw i).getLsbD j = true ∧ (fb.read .red i).getLsbD j = true)

/-- What holds of the framebuffer in every reachable state: both planes in canonical form, nothing outside
`PLANE_LEN`, nothing in a plane that is not allocated, padding clear, no (1, 1). -/
structure FramebufferInv (c : Config) (fb : Framebuffer) : Prop where
  canonical : ∀ p, (fb.plane p).wf
  inside : ∀ p i, planeLen c ≤ i → fb.read p i = unlistedByte
  allocated : ∀ p i, planeAllocated c p = false → fb.read p i = unlistedByte
  padding : ∀ p, PaddingClear c fb p
  noBoth : NoBothBits fb

/-- The invariant of the block: a well-formed configuration (10_state.md R11), the framebuffer's invariant, and a poll
counter only inside a request (10_state.md R20). -/
structure State.Inv (s : State) : Prop where
  config : s.cfg.WellFormed
  framebuffer : FramebufferInv s.cfg s.fb
  poll : s.seq = .idle → s.pollN = none

/-- The trace is framed: every transfer stands under its own mode, and every `Command` transfer is one of the
configuration's twelve opcode bytes (20_memory.md R40, 30_encoding.md R74). -/
structure State.TraceInv (s : State) : Prop where
  framed : wellFramed s.trace = true
  opcodes : ∀ bytes ∈ commandTransfers s.trace, ∃ op ∈ s.cfg.opc.toList, bytes = [op]

end Sys2Proof.Machine
end

