-- ==== Sys2Proof/Certificates/Slice0/Obligations.lean ====
section
/-! DEFINITION. The statements for the provers. Each docstring names the rules of spec/ it formalises or rests on. -/

open Sys2Proof Sys2Proof.Machine

/-! ### Construction, stepping, decoding -/

/-- 70_reset_and_hazards.md R200: construction sets every piece of state the spec gives a value. The construction
arguments of State.reset (log 4) and the latches (logs 8, 9) are the model's choices and are not claimed here. -/
def Obligations.ConstructionSetsEveryField : Prop :=
  ∀ c : Config,
    (c.WellFormed → construct c = .next (State.initial c)) ∧
    (¬ c.WellFormed → construct c = .refused .illFormedConfig) ∧
    (State.initial c).cfg = c ∧ (State.initial c).drvState = .uninitialized ∧
    (∀ p i, (State.initial c).fb.read p i = 0x00#8) ∧ (State.initial c).seq = .idle ∧
    (State.initial c).pollN = none ∧ (State.initial c).result = none ∧ (State.initial c).trace = []

/-- The invariant holds after construction with any well-formed configuration, State.reset among them
(10_state.md R15, R16, 41_framebuffer.md R128). -/
def Obligations.ConstructionMeetsInvariant : Prop :=
  State.reset.Inv ∧ ∀ c : Config, c.WellFormed → (State.initial c).Inv

/-- Every step keeps the invariant: planes canonical and inside `PLANE_LEN`, padding bits 0 (10_state.md R15), the pair
(1, 1) never stored (41_framebuffer.md R128), the configuration well-formed (10_state.md R11), no poll counter between
requests (10_state.md R20). -/
def Obligations.EveryStepKeepsInvariant : Prop :=
  ∀ s t : State, s.Inv → step s = .next t → t.Inv

/-- Decoding the encoding of an instruction gives the instruction back, every operand at every value, under every
well-formed configuration (30_encoding.md R61 to R72). A RAM write is whole (R68). -/
def Obligations.DecodeEncodeRoundTrip : Prop :=
  ∀ (c : Config) (i : Instr), c.WellFormed →
    (∀ bytes, i = .writeRamBw bytes ∨ i = .writeRamRed bytes → bytes.length = planeLen c) →
    decode c (encode c i) = .ok i

/-- A descriptor that decodes is exactly the encoding of what it decodes to: no byte is dropped
(30_encoding.md R67, R72). -/
def Obligations.DescriptorsHaveOneMeaning : Prop :=
  ∀ (c : Config) (d : Descriptor) (i : Instr), decodeDescriptor c d = .ok i → encode c i = .cmd d

/-- A request record is refused exactly when its operation code is 5, 6 or 7, or it is SET_PIXEL or CLEAR with colour
code 3 (30_encoding.md R62, R63, R73). -/
def Obligations.ReservedRequestsRefused : Prop :=
  ∀ r : Request,
    (∃ e, decodeRequest r = .error e) ↔
      (5 ≤ r.op.toNat ∨ ((r.op = 1#3 ∨ r.op = 2#3) ∧ r.color = 3#2))

/-- A descriptor is accepted exactly when its opcode byte is one of the twelve and its data has the length the table
gives that command (30_encoding.md R68, R72, R74). -/
def Obligations.DescriptorsAcceptedExactly : Prop :=
  ∀ (c : Config) (d : Descriptor), c.WellFormed →
    ((∃ i, decodeDescriptor c d = .ok i) ↔
      (d.op, d.data.length) ∈
        [(c.opc.driverOutput, 3), (c.opc.dataEntry, 1), (c.opc.ramXRange, 2), (c.opc.ramYRange, 4),
          (c.opc.borderWaveform, 1), (c.opc.tempSensor, 1), (c.opc.updateCtrl1, 2), (c.opc.updateCtrl2, 1),
          (c.opc.masterActivation, 0), (c.opc.writeRamBw, planeLen c), (c.opc.writeRamRed, planeLen c),
          (c.opc.deepSleep, 1)])

/-- Words written out from the spec's tables and vectors decode to the instructions they stand for: V-ENC and the REQ
fields of P1 and P2 (95_test_vectors.md), with the default opcode bytes (PRESUMED, log 6). -/
def Obligations.SpecWordsDecode : Prop :=
  decodeBytes (configOf 128 296 .r0 .one 1) [0x01#8, 0x27#8, 0x01#8, 0x00#8] =
      .ok (.driverOutputControl 295#16 0x00#8) ∧
    decodeBytes (configOf 128 296 .r0 .one 1) [0x45#8, 0x00#8, 0x00#8, 0x27#8, 0x01#8] =
      .ok (.ramYRange 0#16 295#16) ∧
    decodeBytes (configOf 8 2 .r0 .one 1) [0x24#8, 0x80#8, 0x01#8] = .ok (.writeRamBw [0x80#8, 0x01#8]) ∧
    decodeRequest ⟨1#3, 127#16, 295#16, 1#2, 0#1⟩ = .ok (.setPixel 127#16 295#16 .black) ∧
    decodeRequest ⟨3#3, 0#16, 0#16, 0#2, 1#1⟩ = .ok (.update .partialRefresh)

/-- From idle a step takes the host's next request, writes its operand registers and runs the instruction it decodes
to; an encoding the spec reserves is refused by name (10_state.md R10, 42_display_driver.md R140, 30_encoding.md R73). -/
def Obligations.StepRunsNextRequest : Prop :=
  ∀ (s : State) (r : Request) (rest : List Request), s.cfg.WellFormed → s.seq = .idle → s.requests = r :: rest →
    (∀ i, decodeRequest r = .ok i → step s = exec i { s with req := r, requests := rest }) ∧
    (∀ e, decodeRequest r = .error e → step s = .refused (.undecodable e))

/-- Inside a request a step takes the next task: a descriptor is decoded and run, a plane is sent as it stands, and
with no task left the request returns `Ok` (10_state.md R19, 42_display_driver.md R144). -/
def Obligations.StepRunsNextTask : Prop :=
  ∀ (s : State) (rest : List Task), s.cfg.WellFormed →
    (∀ d i, s.seq = .running (.send d :: rest) → decodeDescriptor s.cfg d = .ok i →
      step s = exec i { s with seq := .running rest }) ∧
    (s.seq = .running (.sendPlane .bw :: rest) →
      step s = exec (.writeRamBw (planeBytes s.cfg s.fb .bw)) { s with seq := .running rest }) ∧
    (s.seq = .running (.sendPlane .red :: rest) →
      step s = exec (.writeRamRed (planeBytes s.cfg s.fb .red)) { s with seq := .running rest }) ∧
    (s.seq = .running [] → step s = .next (ended .ok s))

/-- Between requests nothing happens: with no request waiting a step changes nothing (42_display_driver.md R140). -/
def Obligations.IdleBlockChangesNothing : Prop :=
  ∀ s : State, s.cfg.WellFormed → s.seq = .idle → s.requests = [] → step s = .next s

/-- The block is defined only for well-formed configurations: no step runs with any other (10_state.md R11). -/
def Obligations.IllFormedConfigurationRefused : Prop :=
  ∀ s : State, ¬ s.cfg.WellFormed → step s = .refused .illFormedConfig

/-- The reset-line primitives and the busy sample each append their one event and touch nothing else but their latch
(20_memory.md R34, R35, R39). -/
def Obligations.LinePrimitivesDoOneEvent : Prop :=
  ∀ s : State,
    rstAssert s = { s with trace := s.trace ++ [.rst .asserted], rstOut := .asserted } ∧
    rstDeassert s = { s with trace := s.trace ++ [.rst .deasserted], rstOut := .deasserted } ∧
    busyRead s =
      (s.busyAt 0, { s.skipBusy 1 with trace := s.trace ++ [.busy (s.busyAt 0)] })

/-! ### Geometry -/

/-- Framebuffer addressing: byte index and one-hot mask of a physical pixel, inside the plane, most significant bit
first, the same for every plane, with the two ends of the 128 by 296 panel (20_memory.md R31). -/
def Obligations.LocateFollowsLayout : Prop :=
  (∀ (c : Config) (px py : Nat), px < c.width → py < c.height →
    (locate c px py).1 = py * ((c.width + 7) / 8) + px / 8 ∧
    (locate c px py).1 < (c.width + 7) / 8 * c.height ∧
    (∀ j < 8, (locate c px py).2.getLsbD j = decide (j = 7 - px % 8)) ∧
    ∀ (fb : Framebuffer) (p : PlaneId),
      pixelBit c fb p px py = (fb.read p (py * ((c.width + 7) / 8) + px / 8)).getLsbD (7 - px % 8)) ∧
  ∀ c : Config, c.width = 128 → c.height = 296 →
    locate c 0 0 = (0, 0x80#8) ∧ locate c 127 295 = (4735, 0x01#8) ∧ planeLen c = 4736

/-- The rotation follows its four formulas and is a bijection from the logical rectangle onto the physical one
(41_framebuffer.md R122, R123; the formulas are PRESUMED, log 13). -/
def Obligations.RotationIsBijection : Prop :=
  ∀ c : Config,
    (∀ x y, rotate c x y =
      match c.rot with
      | .r0 => (x, y)
      | .r90 => (c.width - 1 - y, x)
      | .r180 => (c.width - 1 - x, c.height - 1 - y)
      | .r270 => (y, c.height - 1 - x)) ∧
    (∀ x y, x < logicalWidth c → y < logicalHeight c →
      (rotate c x y).1 < c.width ∧ (rotate c x y).2 < c.height) ∧
    (∀ x y x' y', x < logicalWidth c → y < logicalHeight c → x' < logicalWidth c → y' < logicalHeight c →
      rotate c x y = rotate c x' y' → x = x' ∧ y = y') ∧
    (∀ px py, px < c.width → py < c.height →
      ∃ x y, x < logicalWidth c ∧ y < logicalHeight c ∧ rotate c x y = (px, py))

/-- Two physical pixels never share a bit of a plane (20_memory.md R31, DOC0's first property in 95_test_vectors.md S1). -/
def Obligations.PixelsDoNotShareBits : Prop :=
  ∀ (c : Config) (px py px' py' : Nat), px < c.width → py < c.height → px' < c.width → py' < c.height →
    locate c px py = locate c px' py' → px = px' ∧ py = py'

/-! ### SET_PIXEL and CLEAR -/

/-- SET_PIXEL in bounds with a colour whose plane exists ends with `Ok`: in every allocated plane the pixel's one bit
becomes the colour's, every other byte and everything else keeps its value (41_framebuffer.md R121, R125). The premise
that planes are canonical is part of the invariant. -/
def Obligations.SetPixelWritesOneBit : Prop :=
  ∀ (s : State) (x y : Half) (col : Color), (∀ p, (s.fb.plane p).wf) →
    ¬ (col = .red ∧ s.cfg.planes = .one) → x.toNat < logicalWidth s.cfg → y.toNat < logicalHeight s.cfg →
    ∃ fb, exec (.setPixel x y col) s = .next (ended .ok { s with fb := fb }) ∧
      ∀ p j, fb.read p j =
        let px := rotate s.cfg x.toNat y.toNat
        let loc := locate s.cfg px.1 px.2
        if planeAllocated s.cfg p = true ∧ j = loc.1 then
          if (p = .bw ∧ col = .black) ∨ (p = .red ∧ col = .red) then s.fb.read p j ||| loc.2
          else s.fb.read p j &&& ~~~loc.2
        else s.fb.read p j

/-- After a SET_PIXEL that ends with `Ok` the pixel reads back as the colour written, and every other pixel reads as
before (41_framebuffer.md R128, DOC0's first property). -/
def Obligations.SetPixelReadsBack : Prop :=
  ∀ (s t : State) (x y : Half) (col : Color), (∀ p, (s.fb.plane p).wf) →
    exec (.setPixel x y col) s = .next t → t.result = some .ok →
    getPixel t.cfg t.fb x.toNat y.toNat = some col ∧
    ∀ x' y', x' < logicalWidth s.cfg → y' < logicalHeight s.cfg → (x', y') ≠ (x.toNat, y.toNat) →
      getPixel t.cfg t.fb x' y' = getPixel s.cfg s.fb x' y'

/-- SET_PIXEL outside the logical extent ends with `OutOfBounds` and writes nothing (60_exceptions.md R175). -/
def Obligations.SetPixelOutOfBounds : Prop :=
  ∀ (s : State) (x y : Half) (col : Color), ¬ (col = .red ∧ s.cfg.planes = .one) →
    (logicalWidth s.cfg ≤ x.toNat ∨ logicalHeight s.cfg ≤ y.toNat) →
    exec (.setPixel x y col) s = .next (ended (.err .outOfBounds) s)

/-- SET_PIXEL and CLEAR with `Red` on a one-plane block end with `UnsupportedColor` and write nothing
(60_exceptions.md R176). -/
def Obligations.RedNeedsSecondPlane : Prop :=
  ∀ s : State, s.cfg.planes = .one →
    (∀ x y, exec (.setPixel x y .red) s = .next (ended (.err .unsupportedColor) s)) ∧
    exec (.clear .red) s = .next (ended (.err .unsupportedColor) s)

/-- CLEAR with a colour whose plane exists ends with `Ok`: every byte of every allocated plane becomes the colour's
bit in every in-width position with the padding bits 0, and everything else keeps its value
(41_framebuffer.md R126). The premise that planes are canonical is part of the invariant. -/
def Obligations.ClearFillsPlanes : Prop :=
  ∀ (s : State) (col : Color), (∀ p, (s.fb.plane p).wf) → ¬ (col = .red ∧ s.cfg.planes = .one) →
    ∃ fb, exec (.clear col) s = .next (ended .ok { s with fb := fb }) ∧
      (∀ p row column, planeAllocated s.cfg p = true → row < s.cfg.height → column < bpr s.cfg →
        ∀ j < 8, (fb.read p (row * bpr s.cfg + column)).getLsbD j =
          (decide ((p = .bw ∧ col = .black) ∨ (p = .red ∧ col = .red)) &&
            decide (column * 8 + (7 - j) < s.cfg.width))) ∧
      ∀ p j, planeAllocated s.cfg p = false ∨ planeLen s.cfg ≤ j → fb.read p j = s.fb.read p j

/-- After a CLEAR that ends with `Ok` every pixel reads back as the colour (41_framebuffer.md R128, DOC0's second
property). -/
def Obligations.ClearReadsBackEverywhere : Prop :=
  ∀ (s t : State) (col : Color), (∀ p, (s.fb.plane p).wf) → exec (.clear col) s = .next t → t.result = some .ok →
    ∀ x y, x < logicalWidth s.cfg → y < logicalHeight s.cfg → getPixel t.cfg t.fb x y = some col

/-! ### INIT, UPDATE, SLEEP -/

/-- INIT, from any driver state, with favourable answers: the reset pulse, the wait, the fourteen transfers of the boot
sequence in order, then `Ready` and `Ok`; nothing else changes (42_display_driver.md R142, R143, R146, R147,
40_command_encoder.md R103, R104). -/
def Obligations.InitBringsReady : Prop :=
  ∀ (s : State) (k : Nat), IdleAfter s k → BusOk s 14 →
    exec .init s = .next (ended .ok
      { afterTransfers (initTransfers s.cfg) (afterWait (k + 1) (waitEvents k) (afterPulse s)) with
        drvState := .ready })

/-- UPDATE from `Ready` with favourable answers: window, planes, trigger, wait, then `Ready` and `Ok`; nine transfers
with one plane, eleven with two (42_display_driver.md R144, R148). -/
def Obligations.UpdateSendsEverythingAndWaits : Prop :=
  ∀ (s : State) (mode : RefreshMode) (k : Nat), s.cfg.WellFormed → s.drvState = .ready → IdleAfter s k →
    BusOk s (updateTransfers s.cfg s.fb mode).length →
    exec (.update mode) s = .next (ended .ok
      { afterWait (k + 1) (waitEvents k) (afterTransfers (updateTransfers s.cfg s.fb mode) s) with
        drvState := .ready }) ∧
    (updateTransfers s.cfg s.fb mode).length = match s.cfg.planes with
      | .one => 9
      | .two => 11

/-- SLEEP from `Ready` with favourable answers: the one descriptor, then `Sleeping` and `Ok`
(42_display_driver.md R145). -/
def Obligations.SleepSendsDeepSleep : Prop :=
  ∀ s : State, s.drvState = .ready → BusOk s 2 →
    exec .sleep s = .next (ended .ok { afterTransfers (sleepTransfers s.cfg) s with drvState := .sleeping })

/-- `InvalidState`: UPDATE and SLEEP from any state but `Ready` end with it before any event and change nothing; INIT,
SET_PIXEL and CLEAR never raise it (60_exceptions.md R173). -/
def Obligations.InvalidStateBeforeAnyEvent : Prop :=
  (∀ s : State, s.drvState ≠ .ready →
    (∀ mode, exec (.update mode) s = .next (ended (.err .invalidState) s)) ∧
    exec .sleep s = .next (ended (.err .invalidState) s)) ∧
  ∀ s t : State, (exec .init s = .next t ∨ (∃ x y col, exec (.setPixel x y col) s = .next t) ∨
    ∃ col, exec (.clear col) s = .next t) → t.result ≠ some (.err .invalidState)

/-- `Timeout`: with a busy line that never drops, INIT ends after `MAX_POLLS` samples with `DRV_STATE` as it was and no
command sent, UPDATE ends with everything sent and `Updating`; a later INIT with favourable answers gives `Ready`
(60_exceptions.md R172). -/
def Obligations.TimeoutWithinBound : Prop :=
  (∀ s : State, StuckBusy s →
    exec .init s = .next (ended (.err .timeout)
      (afterWait s.cfg.maxPolls (timeoutEvents s.cfg.maxPolls) (afterPulse s)))) ∧
  (∀ (s : State) (mode : RefreshMode), s.cfg.WellFormed → s.drvState = .ready →
    BusOk s (updateTransfers s.cfg s.fb mode).length → StuckBusy s →
    exec (.update mode) s = .next (ended (.err .timeout)
      { afterWait s.cfg.maxPolls (timeoutEvents s.cfg.maxPolls)
          (afterTransfers (updateTransfers s.cfg s.fb mode) s) with drvState := .updating })) ∧
  ∀ (s t u : State) (i : Instr) (k : Nat), exec i s = .next t → t.result = some (.err .timeout) →
    IdleAfter t k → BusOk t 14 → exec .init t = .next u → u.drvState = .ready ∧ u.result = some .ok

/-- `BusFailure`, over every transfer sequence: a running INIT, UPDATE or SLEEP ends with it exactly when a transfer was
answered `err`, that transfer is the last event of the request, and `DRV_STATE` keeps its value
(60_exceptions.md R171). -/
def Obligations.ErrAnswerEndsTheRequest : Prop :=
  ∀ (i : Instr) (s t : State), (i = .init ∨ (∃ mode, i = .update mode) ∨ i = .sleep) → exec i s = .next t →
    ∃ ev, t.trace = s.trace ++ ev ∧
      (t.result = some (.err .busFailure) ↔ ∃ bytes, .write bytes .err ∈ ev) ∧
      ∀ before bytes after, ev = before ++ .write bytes .err :: after → after = [] ∧ t.drvState = s.drvState

/-- `BusFailure`: the first transfer answered `err` is the last event of the request; `DRV_STATE` keeps its value and
nothing else of the block changes (60_exceptions.md R171). -/
def Obligations.BusFailureEndsTheRequest : Prop :=
  (∀ (s : State) (k n : Nat), IdleAfter s k → n < 14 → BusFailsAt s n →
    exec .init s = .next (ended (.err .busFailure)
      (afterFailedTransfer (initTransfers s.cfg) n (afterWait (k + 1) (waitEvents k) (afterPulse s))))) ∧
  (∀ (s : State) (mode : RefreshMode) (n : Nat), s.cfg.WellFormed → s.drvState = .ready →
    n < (updateTransfers s.cfg s.fb mode).length → BusFailsAt s n →
    exec (.update mode) s = .next (ended (.err .busFailure)
      (afterFailedTransfer (updateTransfers s.cfg s.fb mode) n s))) ∧
  ∀ (s : State) (n : Nat), s.drvState = .ready → n < 2 → BusFailsAt s n →
    exec .sleep s = .next (ended (.err .busFailure) (afterFailedTransfer (sleepTransfers s.cfg) n s))

/-- After a SLEEP that ended with `Ok`, UPDATE and SLEEP are refused with `InvalidState`, and INIT with favourable
answers brings the block back to `Ready` (70_reset_and_hazards.md R209). -/
def Obligations.AfterSleepOnlyInit : Prop :=
  ∀ s t : State, exec .sleep s = .next t → t.result = some .ok →
    t.drvState = .sleeping ∧
    (∀ mode, exec (.update mode) t = .next (ended (.err .invalidState) t)) ∧
    exec .sleep t = .next (ended (.err .invalidState) t) ∧
    ∀ k, IdleAfter t k → BusOk t 14 → ∃ u, exec .init t = .next u ∧ u.drvState = .ready ∧ u.result = some .ok

/-- What is drawn before an UPDATE is what it transfers: after a SET_PIXEL that ended with `Ok` on a canonical
framebuffer, a successful UPDATE sends, right behind each plane's own RAM-write opcode, that plane's bytes as they were
before the SET_PIXEL but for the pixel's one bit: plane 0, and plane 1 when there is one (20_memory.md R51,
41_framebuffer.md R121). Where the pixel lies follows the rotation formulas (PRESUMED, log 13), and which mode goes with
which part of a transfer is PRESUMED (log 12). -/
def Obligations.UpdateTransfersWhatWasDrawn : Prop :=
  ∀ (s t u : State) (x y : Half) (col : Color) (mode : RefreshMode), (∀ p, (s.fb.plane p).wf) → s.cfg.WellFormed →
    exec (.setPixel x y col) s = .next t → t.result = some .ok →
    exec (.update mode) t = .next u → u.result = some .ok →
    let px := rotate s.cfg x.toNat y.toNat
    let loc := locate s.cfg px.1 px.2
    let drawn : PlaneId → List Byte := fun p =>
      (planeBytes s.cfg s.fb p).set loc.1
        (if (p = .bw ∧ col = .black) ∨ (p = .red ∧ col = .red) then s.fb.read p loc.1 ||| loc.2
          else s.fb.read p loc.1 &&& ~~~loc.2)
    let planes : List Transfer :=
      match s.cfg.planes with
      | .one => [(.command, [s.cfg.opc.writeRamBw]), (.data, drawn .bw)]
      | .two => [(.command, [s.cfg.opc.writeRamBw]), (.data, drawn .bw),
          (.command, [s.cfg.opc.writeRamRed]), (.data, drawn .red)]
    loc.1 < planeLen s.cfg ∧
    ∃ before after, u.trace = s.trace ++ before ++ okEvents planes ++ after ∧
      ∀ bytes ∈ commandTransfers (before ++ after),
        bytes ≠ [s.cfg.opc.writeRamBw] ∧ bytes ≠ [s.cfg.opc.writeRamRed]

/-- `Full` and `Partial` run the same sequence and leave the same state; their traces differ only in the data byte of
UPDATE_CTRL_2 (42_display_driver.md R153). -/
def Obligations.FullAndPartialDifferInOneByte : Prop :=
  ∀ s t u : State, exec (.update .fullRefresh) s = .next t → exec (.update .partialRefresh) s = .next u →
    u = { t with trace := u.trace } ∧ t.trace.length = u.trace.length ∧
    ∀ (j : Nat) (e f : Event), t.trace[j]? = some e → u.trace[j]? = some f →
      e = f ∨ ∃ a, e = .write [s.cfg.val.updateFull] a ∧ f = .write [s.cfg.val.updatePartial] a

/-! ### Whole-block rules -/

/-- Every request ends, with one of the results the spec gives, and leaves the sequencer idle; `InvalidRegion` is none
of them (42_display_driver.md R155, 60_exceptions.md R170, R174, R178). -/
def Obligations.EveryRequestEndsWithAResult : Prop :=
  ∀ (i : Instr) (s : State), s.cfg.WellFormed → isRequest i = true →
    ∃ t r, exec i s = .next t ∧ t.seq = .idle ∧ t.pollN = none ∧ t.result = some r ∧ r ≠ .err .invalidRegion

/-- The state table: what each request does to `DRV_STATE`, by its result; SET_PIXEL, CLEAR and single descriptors
leave it alone (42_display_driver.md R141, R148, R150). -/
def Obligations.DriverStateTable : Prop :=
  ∀ (i : Instr) (s t : State), s.cfg.WellFormed → exec i s = .next t →
    match i with
    | .init =>
      (t.result = some .ok ∧ t.drvState = .ready) ∨
      ((t.result = some (.err .timeout) ∨ t.result = some (.err .busFailure)) ∧ t.drvState = s.drvState)
    | .update _ =>
      (s.drvState = .ready ∧
        ((t.result = some .ok ∧ t.drvState = .ready) ∨ (t.result = some (.err .busFailure) ∧ t.drvState = .ready) ∨
          (t.result = some (.err .timeout) ∧ t.drvState = .updating))) ∨
      (s.drvState ≠ .ready ∧ t.result = some (.err .invalidState) ∧ t.drvState = s.drvState)
    | .sleep =>
      (s.drvState = .ready ∧
        ((t.result = some .ok ∧ t.drvState = .sleeping) ∨
          (t.result = some (.err .busFailure) ∧ t.drvState = .ready))) ∨
      (s.drvState ≠ .ready ∧ t.result = some (.err .invalidState) ∧ t.drvState = s.drvState)
    | _ => t.drvState = s.drvState

/-- `Updating` is entered only by an UPDATE that timed out, and left only by an INIT that succeeded
(42_display_driver.md R148, R149). -/
def Obligations.UpdatingOnlyAfterTimeout : Prop :=
  ∀ (i : Instr) (s t : State), exec i s = .next t →
    (s.drvState ≠ .updating → t.drvState = .updating →
      ∃ mode, i = .update mode ∧ s.drvState = .ready ∧ t.result = some (.err .timeout)) ∧
    (s.drvState = .updating → t.drvState ≠ .updating → i = .init ∧ t.drvState = .ready ∧ t.result = some .ok)

/-- Only SET_PIXEL and CLEAR write the framebuffer; those two produce no event and touch neither `DRV_STATE` nor the
lines (10_state.md R14, 41_framebuffer.md R120, 42_display_driver.md R151, R152). -/
def Obligations.FramebufferAndBusAreSeparate : Prop :=
  ∀ (i : Instr) (s t : State), exec i s = .next t →
    (t.fb = s.fb ∨ (∃ x y col, i = .setPixel x y col) ∨ ∃ col, i = .clear col) ∧
    (((∃ x y col, i = .setPixel x y col) ∨ ∃ col, i = .clear col) →
      t.trace = s.trace ∧ t.drvState = s.drvState ∧ t.rstOut = s.rstOut ∧ t.dcOut = s.dcOut ∧
      t.busAnswers = s.busAnswers ∧ t.busySamples = s.busySamples ∧ t.freeBus = s.freeBus ∧ t.freeBusy = s.freeBusy)

/-- No instruction changes the configuration, and none touches the operand registers or the host's coming requests
(10_state.md R10, R11). -/
def Obligations.ConfigurationNeverChanges : Prop :=
  (∀ (i : Instr) (s t : State), exec i s = .next t → t.cfg = s.cfg ∧ t.req = s.req ∧ t.requests = s.requests) ∧
  ∀ s t : State, step s = .next t → t.cfg = s.cfg

/-- Whatever happens, an instruction only appends to the trace, every transfer stands right after its mode and is one
opcode byte of the twelve under `Command`, and the reset line moves only in INIT (20_memory.md R40, R49,
30_encoding.md R72, R74, 70_reset_and_hazards.md R201; which mode goes with which part is PRESUMED, log 12). -/
def Obligations.TraceIsWellFramed : Prop :=
  ∀ (i : Instr) (s t : State), exec i s = .next t →
    ∃ ev, t.trace = s.trace ++ ev ∧ wellFramed ev = true ∧
      (∀ bytes ∈ commandTransfers ev, ∃ op ∈ s.cfg.opc.toList, bytes = [op]) ∧
      (hasResetEvent ev = true → i = .init)

/-- The bounds on the events of one request (42_display_driver.md R155). -/
def Obligations.EventsAreBounded : Prop :=
  ∀ (i : Instr) (s t : State), 1 ≤ s.cfg.maxPolls → isRequest i = true → exec i s = .next t →
    t.trace.length ≤ s.trace.length +
      match i with
      | .init => 4 + (2 * s.cfg.maxPolls - 1) + 28
      | .update _ => 22 + (2 * s.cfg.maxPolls - 1)
      | .sleep => 4
      | _ => 0

/-- The delays one request asks for: `(MAX_POLLS - 1) * T_POLL` for a wait, and the two reset times in INIT
(00_scope.md R5, 60_exceptions.md R185). -/
def Obligations.DelaysAreBounded : Prop :=
  ∀ (i : Instr) (s t : State), isRequest i = true → exec i s = .next t →
    ∃ ev, t.trace = s.trace ++ ev ∧
      totalDelay s.cfg ev ≤
        match i with
        | .init => s.cfg.tResetHold + s.cfg.tResetSettle + (s.cfg.maxPolls - 1) * s.cfg.tPoll
        | .update _ => (s.cfg.maxPolls - 1) * s.cfg.tPoll
        | _ => 0

/-- Errors are not sticky, and what a request does depends on no latch and on nothing the block produced before: run
from states that differ only in the last result, the trace, the line latches and the operand registers, the same
instruction gives the same result, the same new events, the same `DRV_STATE` and the same framebuffer
(60_exceptions.md R177, 10_state.md R17, R18, R21, R22). The request's rule does read its operands (10_state.md R10): they
are the arguments of the instruction, which R10 allows and log 10 chooses, so `exec` reads no operand register. -/
def Obligations.ErrorsAreNotSticky : Prop :=
  ∀ (i : Instr) (s t : State) (r : Option Result) (tr : List Event) (ro : ResetLevel) (dc : SelectMode) (q : Request),
    isRequest i = true → exec i s = .next t →
    ∃ ev t', t.trace = s.trace ++ ev ∧
      exec i { s with result := r, trace := tr, rstOut := ro, dcOut := dc, req := q } = .next t' ∧
      t'.trace = tr ++ ev ∧ t'.result = t.result ∧ t'.drvState = t.drvState ∧ t'.fb = t.fb

/-- Nothing faults: no instruction and no step ever reaches a framebuffer byte that does not exist
(20_memory.md R30, R48). -/
def Obligations.NoStepFaults : Prop :=
  (∀ (i : Instr) (s : State) (f : Fault), exec i s ≠ .fault f) ∧ ∀ (s : State) (f : Fault), step s ≠ .fault f

/-- Running a request whole is the same as stepping its tasks one by one: from the request's first task some number of
steps reaches exactly the state the whole request ends in (10_state.md R19, 42_display_driver.md R142, R144, R145). -/
def Obligations.SequencerRunsWholeRequests : Prop :=
  ∀ s : State, s.cfg.WellFormed →
    (∃ n, Host.Core.run Sys2Proof.core n (beginInit s) = exec .init s) ∧
    (∀ mode, ∃ n, Host.Core.run Sys2Proof.core n (beginUpdate mode s) = exec (.update mode) s) ∧
    ∃ n, Host.Core.run Sys2Proof.core n (beginSleep s) = exec .sleep s

/-! ### The Command Encoder and single descriptors -/

/-- The four encoder functions that take no rectangle build the descriptors the tables list, byte by byte; the rotation
changes nothing (40_command_encoder.md R103 to R105, R107 to R109, 30_encoding.md R69, R71, R72; the layouts are
PRESUMED, log 7). `set_ram_window` is `RamWindowChecksItsRectangle`. -/
def Obligations.EncoderBuildsTheTables : Prop :=
  ∀ (c : Config) (w h : Nat) (r : Rotation),
    initializationSequence c w h r =
      [⟨c.opc.driverOutput, [BitVec.ofNat 8 (h - 1), BitVec.ofNat 8 ((h - 1) / 256), c.val.gateScan]⟩,
        ⟨c.opc.dataEntry, [c.val.dataEntry]⟩,
        ⟨c.opc.ramXRange, [0x00#8, BitVec.ofNat 8 ((w - 1) / 8)]⟩,
        ⟨c.opc.ramYRange, [0x00#8, 0x00#8, BitVec.ofNat 8 (h - 1), BitVec.ofNat 8 ((h - 1) / 256)]⟩,
        ⟨c.opc.borderWaveform, [c.val.border]⟩, ⟨c.opc.tempSensor, [c.val.tempSensor]⟩,
        ⟨c.opc.updateCtrl1, [c.val.updateCtrl1A, c.val.updateCtrl1B]⟩] ∧
    (∀ bytes, bytes.length = planeLen c →
      writeRam c .bw bytes = .ok ⟨c.opc.writeRamBw, bytes⟩ ∧
      (c.planes = .two → writeRam c .red bytes = .ok ⟨c.opc.writeRamRed, bytes⟩)) ∧
    triggerUpdate c .fullRefresh = [⟨c.opc.updateCtrl2, [c.val.updateFull]⟩, ⟨c.opc.masterActivation, []⟩] ∧
    triggerUpdate c .partialRefresh = [⟨c.opc.updateCtrl2, [c.val.updatePartial]⟩, ⟨c.opc.masterActivation, []⟩] ∧
    sleepSequence c = [⟨c.opc.deepSleep, [c.val.deepSleep]⟩]

/-- `set_ram_window` gives the two window descriptors for a rectangle inside the panel, corners included, and
`InvalidRegion` for an inverted or overhanging one (40_command_encoder.md R106, 60_exceptions.md R174). -/
def Obligations.RamWindowChecksItsRectangle : Prop :=
  ∀ (c : Config) (x0 y0 x1 y1 : Nat),
    (x0 ≤ x1 → y0 ≤ y1 → x1 < c.width → y1 < c.height →
      setRamWindow c x0 y0 x1 y1 = .ok
        [⟨c.opc.ramXRange, [BitVec.ofNat 8 (x0 / 8), BitVec.ofNat 8 (x1 / 8)]⟩,
          ⟨c.opc.ramYRange, [BitVec.ofNat 8 y0, BitVec.ofNat 8 (y0 / 256), BitVec.ofNat 8 y1,
            BitVec.ofNat 8 (y1 / 256)]⟩]) ∧
    (x1 < x0 ∨ y1 < y0 ∨ c.width ≤ x1 ∨ c.height ≤ y1 → setRamWindow c x0 y0 x1 y1 = .error .invalidRegion)

/-- The seven descriptors of the boot sequence, each run alone with its transfers answered `ok`: the opcode under
`Command`, the data under `Data`, only the trace and the select line move (20_memory.md R40, 40_command_encoder.md R91
to R97). -/
def Obligations.BootDescriptorsSend : Prop :=
  ∀ (s : State) (lines ys ye : Half) (a b : Byte), BusOk s 2 →
    exec (.driverOutputControl lines a) s = .next (afterTransfers
      (transfersOf s.cfg.opc.driverOutput [lines.setWidth 8, (lines >>> 8).setWidth 8, a]) s) ∧
    exec (.dataEntryMode a) s = .next (afterTransfers (transfersOf s.cfg.opc.dataEntry [a]) s) ∧
    exec (.ramXRange a b) s = .next (afterTransfers (transfersOf s.cfg.opc.ramXRange [a, b]) s) ∧
    exec (.ramYRange ys ye) s = .next (afterTransfers
      (transfersOf s.cfg.opc.ramYRange
        [ys.setWidth 8, (ys >>> 8).setWidth 8, ye.setWidth 8, (ye >>> 8).setWidth 8]) s) ∧
    exec (.borderWaveform a) s = .next (afterTransfers (transfersOf s.cfg.opc.borderWaveform [a]) s) ∧
    exec (.tempSensor a) s = .next (afterTransfers (transfersOf s.cfg.opc.tempSensor [a]) s) ∧
    exec (.updateCtrl1 a b) s = .next (afterTransfers (transfersOf s.cfg.opc.updateCtrl1 [a, b]) s)

/-- The descriptors of the refresh trigger and of deep sleep, each run alone: MASTER_ACTIVATION is one transfer and
writes no driver state (40_command_encoder.md R98, R99, R102). -/
def Obligations.TriggerAndSleepDescriptorsSend : Prop :=
  ∀ (s : State) (a : Byte),
    (BusOk s 2 → exec (.updateCtrl2 a) s = .next (afterTransfers (transfersOf s.cfg.opc.updateCtrl2 [a]) s)) ∧
    (BusOk s 1 → exec .masterActivation s = .next (afterTransfers [(.command, [s.cfg.opc.masterActivation])] s)) ∧
    (BusOk s 2 → exec (.deepSleep a) s = .next (afterTransfers (transfersOf s.cfg.opc.deepSleep [a]) s))

/-- The RAM writes: a whole plane goes out as one transfer, bytes unchanged; a partial plane, or the red plane on a
one-plane block, has no meaning and is refused by name (40_command_encoder.md R100, R101, R107). -/
def Obligations.RamWritesSendOnePlane : Prop :=
  ∀ (s : State) (bytes : List Byte),
    (bytes.length = planeLen s.cfg → BusOk s 2 →
      exec (.writeRamBw bytes) s = .next (afterTransfers (transfersOf s.cfg.opc.writeRamBw bytes) s) ∧
      (s.cfg.planes = .two →
        exec (.writeRamRed bytes) s = .next (afterTransfers (transfersOf s.cfg.opc.writeRamRed bytes) s))) ∧
    (bytes.length ≠ planeLen s.cfg →
      exec (.writeRamBw bytes) s = .refused (.wrongPlaneLength .bw) ∧
      (s.cfg.planes = .two → exec (.writeRamRed bytes) s = .refused (.wrongPlaneLength .red))) ∧
    (s.cfg.planes = .one → exec (.writeRamRed bytes) s = .refused (.planeNotAllocated .red))

/-- A descriptor whose transfer number `n` is the first answered `err` ends the running request with `BusFailure` at
that transfer; nothing else changes (20_memory.md R40, 60_exceptions.md R178). -/
def Obligations.DescriptorFailsAtItsTransfer : Prop :=
  ∀ (s : State) (i : Instr) (d : Descriptor) (n : Nat), encode s.cfg i = .cmd d →
    (∀ bytes, i = .writeRamBw bytes → bytes.length = planeLen s.cfg) →
    (∀ bytes, i = .writeRamRed bytes → s.cfg.planes = .two ∧ bytes.length = planeLen s.cfg) →
    n < (transfersOf d.op d.data).length → BusFailsAt s n →
    exec i s = .next (ended (.err .busFailure) (afterFailedTransfer (transfersOf d.op d.data) n s))

/-- `as_bytes` and `write_ram` take exactly the planes the block has: an allocated plane gives its `PLANE_LEN` bytes in
index order, the red plane of a one-plane block is refused by both, and bytes that are not one whole plane are refused
(30_encoding.md R73, 41_framebuffer.md R127, 40_command_encoder.md R107; that a refusal is the answer is log 15). -/
def Obligations.PlaneAccessNeedsAllocatedPlane : Prop :=
  ∀ (c : Config) (fb : Framebuffer),
    (∀ p, p = .bw ∨ c.planes = .two →
      ∃ bytes, asBytes c fb p = .ok bytes ∧ bytes.length = planeLen c ∧
        ∀ i < planeLen c, bytes[i]? = some (fb.read p i)) ∧
    (c.planes = .one → asBytes c fb .red = .error (.planeNotAllocated .red) ∧
      ∀ bytes, writeRam c .red bytes = .error (.planeNotAllocated .red)) ∧
    ∀ p bytes, p = .bw ∨ c.planes = .two → bytes.length ≠ planeLen c →
      writeRam c p bytes = .error (.wrongPlaneLength p)

/-- `get_pixel` answers a colour only inside the logical extent (41_framebuffer.md R128 defines it there alone; that the
answer outside is none is the model's choice, log 25), and there it is the colour whose encoding is the stored pair. -/
def Obligations.GetPixelReadsTheStoredPair : Prop :=
  ∀ (c : Config) (fb : Framebuffer) (x y : Nat),
    (x < logicalWidth c → y < logicalHeight c → ∀ col,
      (getPixel c fb x y = some col ↔
        let px := rotate c x y
        pixelBit c fb .bw px.1 px.2 = decide (col = .black) ∧
          (c.planes = .two → pixelBit c fb .red px.1 px.2 = decide (col = .red)) ∧
          (c.planes = .one → col ≠ .red))) ∧
    (logicalWidth c ≤ x ∨ logicalHeight c ≤ y → getPixel c fb x y = none)

/-- The framing of the whole trace is kept by every step, the single primitives of the sequencer among them
(20_memory.md R40, 30_encoding.md R67, R74; which mode goes with which part is PRESUMED, log 12). -/
def Obligations.EveryStepKeepsTraceFramed : Prop :=
  ∀ s t : State, s.TraceInv → step s = .next t → t.TraceInv

/-- A constructed block's trace is framed, State.reset's among them (00_scope.md R4, 70_reset_and_hazards.md R200). -/
def Obligations.ConstructionTraceFramed : Prop :=
  State.reset.TraceInv ∧ ∀ c : Config, (State.initial c).TraceInv
end

