-- ==== Sys2Proof/Laws/State.lean ====
section
/-! SUPPORT. One lemma per field of `State` per update operation, each true by `rfl`, so that no later proof unfolds a
record update. -/

namespace Sys2Proof.Machine

/-! ### emit -/

@[simp] theorem emit_cfg (e : Event) (s : State) : (emit e s).cfg = s.cfg := rfl
@[simp] theorem emit_drvState (e : Event) (s : State) : (emit e s).drvState = s.drvState := rfl
@[simp] theorem emit_fb (e : Event) (s : State) : (emit e s).fb = s.fb := rfl
@[simp] theorem emit_rstOut (e : Event) (s : State) : (emit e s).rstOut = s.rstOut := rfl
@[simp] theorem emit_dcOut (e : Event) (s : State) : (emit e s).dcOut = s.dcOut := rfl
@[simp] theorem emit_seq (e : Event) (s : State) : (emit e s).seq = s.seq := rfl
@[simp] theorem emit_pollN (e : Event) (s : State) : (emit e s).pollN = s.pollN := rfl
@[simp] theorem emit_req (e : Event) (s : State) : (emit e s).req = s.req := rfl
@[simp] theorem emit_result (e : Event) (s : State) : (emit e s).result = s.result := rfl
@[simp] theorem emit_trace (e : Event) (s : State) : (emit e s).trace = s.trace ++ [e] := rfl
@[simp] theorem emit_requests (e : Event) (s : State) : (emit e s).requests = s.requests := rfl
@[simp] theorem emit_busAnswers (e : Event) (s : State) : (emit e s).busAnswers = s.busAnswers := rfl
@[simp] theorem emit_busySamples (e : Event) (s : State) : (emit e s).busySamples = s.busySamples := rfl
@[simp] theorem emit_freeBus (e : Event) (s : State) : (emit e s).freeBus = s.freeBus := rfl
@[simp] theorem emit_freeBusy (e : Event) (s : State) : (emit e s).freeBusy = s.freeBusy := rfl

/-! ### rstAssert -/

@[simp] theorem rstAssert_cfg (s : State) : (rstAssert s).cfg = s.cfg := rfl
@[simp] theorem rstAssert_drvState (s : State) : (rstAssert s).drvState = s.drvState := rfl
@[simp] theorem rstAssert_fb (s : State) : (rstAssert s).fb = s.fb := rfl
@[simp] theorem rstAssert_rstOut (s : State) : (rstAssert s).rstOut = .asserted := rfl
@[simp] theorem rstAssert_dcOut (s : State) : (rstAssert s).dcOut = s.dcOut := rfl
@[simp] theorem rstAssert_seq (s : State) : (rstAssert s).seq = s.seq := rfl
@[simp] theorem rstAssert_pollN (s : State) : (rstAssert s).pollN = s.pollN := rfl
@[simp] theorem rstAssert_req (s : State) : (rstAssert s).req = s.req := rfl
@[simp] theorem rstAssert_result (s : State) : (rstAssert s).result = s.result := rfl
@[simp] theorem rstAssert_trace (s : State) : (rstAssert s).trace = s.trace ++ [.rst .asserted] := rfl
@[simp] theorem rstAssert_requests (s : State) : (rstAssert s).requests = s.requests := rfl
@[simp] theorem rstAssert_busAnswers (s : State) : (rstAssert s).busAnswers = s.busAnswers := rfl
@[simp] theorem rstAssert_busySamples (s : State) : (rstAssert s).busySamples = s.busySamples := rfl
@[simp] theorem rstAssert_freeBus (s : State) : (rstAssert s).freeBus = s.freeBus := rfl
@[simp] theorem rstAssert_freeBusy (s : State) : (rstAssert s).freeBusy = s.freeBusy := rfl

/-! ### rstDeassert -/

@[simp] theorem rstDeassert_cfg (s : State) : (rstDeassert s).cfg = s.cfg := rfl
@[simp] theorem rstDeassert_drvState (s : State) : (rstDeassert s).drvState = s.drvState := rfl
@[simp] theorem rstDeassert_fb (s : State) : (rstDeassert s).fb = s.fb := rfl
@[simp] theorem rstDeassert_rstOut (s : State) : (rstDeassert s).rstOut = .deasserted := rfl
@[simp] theorem rstDeassert_dcOut (s : State) : (rstDeassert s).dcOut = s.dcOut := rfl
@[simp] theorem rstDeassert_seq (s : State) : (rstDeassert s).seq = s.seq := rfl
@[simp] theorem rstDeassert_pollN (s : State) : (rstDeassert s).pollN = s.pollN := rfl
@[simp] theorem rstDeassert_req (s : State) : (rstDeassert s).req = s.req := rfl
@[simp] theorem rstDeassert_result (s : State) : (rstDeassert s).result = s.result := rfl
@[simp] theorem rstDeassert_trace (s : State) : (rstDeassert s).trace = s.trace ++ [.rst .deasserted] := rfl
@[simp] theorem rstDeassert_requests (s : State) : (rstDeassert s).requests = s.requests := rfl
@[simp] theorem rstDeassert_busAnswers (s : State) : (rstDeassert s).busAnswers = s.busAnswers := rfl
@[simp] theorem rstDeassert_busySamples (s : State) : (rstDeassert s).busySamples = s.busySamples := rfl
@[simp] theorem rstDeassert_freeBus (s : State) : (rstDeassert s).freeBus = s.freeBus := rfl
@[simp] theorem rstDeassert_freeBusy (s : State) : (rstDeassert s).freeBusy = s.freeBusy := rfl

/-! ### delay -/

@[simp] theorem delay_cfg (d : Duration) (s : State) : (delay d s).cfg = s.cfg := rfl
@[simp] theorem delay_drvState (d : Duration) (s : State) : (delay d s).drvState = s.drvState := rfl
@[simp] theorem delay_fb (d : Duration) (s : State) : (delay d s).fb = s.fb := rfl
@[simp] theorem delay_rstOut (d : Duration) (s : State) : (delay d s).rstOut = s.rstOut := rfl
@[simp] theorem delay_dcOut (d : Duration) (s : State) : (delay d s).dcOut = s.dcOut := rfl
@[simp] theorem delay_seq (d : Duration) (s : State) : (delay d s).seq = s.seq := rfl
@[simp] theorem delay_pollN (d : Duration) (s : State) : (delay d s).pollN = s.pollN := rfl
@[simp] theorem delay_req (d : Duration) (s : State) : (delay d s).req = s.req := rfl
@[simp] theorem delay_result (d : Duration) (s : State) : (delay d s).result = s.result := rfl
@[simp] theorem delay_trace (d : Duration) (s : State) : (delay d s).trace = s.trace ++ [.delay d] := rfl
@[simp] theorem delay_requests (d : Duration) (s : State) : (delay d s).requests = s.requests := rfl
@[simp] theorem delay_busAnswers (d : Duration) (s : State) : (delay d s).busAnswers = s.busAnswers := rfl
@[simp] theorem delay_busySamples (d : Duration) (s : State) : (delay d s).busySamples = s.busySamples := rfl
@[simp] theorem delay_freeBus (d : Duration) (s : State) : (delay d s).freeBus = s.freeBus := rfl
@[simp] theorem delay_freeBusy (d : Duration) (s : State) : (delay d s).freeBusy = s.freeBusy := rfl

/-! ### setMode -/

@[simp] theorem setMode_cfg (m : SelectMode) (s : State) : (setMode m s).cfg = s.cfg := rfl
@[simp] theorem setMode_drvState (m : SelectMode) (s : State) : (setMode m s).drvState = s.drvState := rfl
@[simp] theorem setMode_fb (m : SelectMode) (s : State) : (setMode m s).fb = s.fb := rfl
@[simp] theorem setMode_rstOut (m : SelectMode) (s : State) : (setMode m s).rstOut = s.rstOut := rfl
@[simp] theorem setMode_dcOut (m : SelectMode) (s : State) : (setMode m s).dcOut = m := rfl
@[simp] theorem setMode_seq (m : SelectMode) (s : State) : (setMode m s).seq = s.seq := rfl
@[simp] theorem setMode_pollN (m : SelectMode) (s : State) : (setMode m s).pollN = s.pollN := rfl
@[simp] theorem setMode_req (m : SelectMode) (s : State) : (setMode m s).req = s.req := rfl
@[simp] theorem setMode_result (m : SelectMode) (s : State) : (setMode m s).result = s.result := rfl
@[simp] theorem setMode_trace (m : SelectMode) (s : State) : (setMode m s).trace = s.trace ++ [.mode m] := rfl
@[simp] theorem setMode_requests (m : SelectMode) (s : State) : (setMode m s).requests = s.requests := rfl
@[simp] theorem setMode_busAnswers (m : SelectMode) (s : State) : (setMode m s).busAnswers = s.busAnswers := rfl
@[simp] theorem setMode_busySamples (m : SelectMode) (s : State) : (setMode m s).busySamples = s.busySamples := rfl
@[simp] theorem setMode_freeBus (m : SelectMode) (s : State) : (setMode m s).freeBus = s.freeBus := rfl
@[simp] theorem setMode_freeBusy (m : SelectMode) (s : State) : (setMode m s).freeBusy = s.freeBusy := rfl

/-! ### skipBus -/

@[simp] theorem skipBus_cfg (n : Nat) (s : State) : (s.skipBus n).cfg = s.cfg := rfl
@[simp] theorem skipBus_drvState (n : Nat) (s : State) : (s.skipBus n).drvState = s.drvState := rfl
@[simp] theorem skipBus_fb (n : Nat) (s : State) : (s.skipBus n).fb = s.fb := rfl
@[simp] theorem skipBus_rstOut (n : Nat) (s : State) : (s.skipBus n).rstOut = s.rstOut := rfl
@[simp] theorem skipBus_dcOut (n : Nat) (s : State) : (s.skipBus n).dcOut = s.dcOut := rfl
@[simp] theorem skipBus_seq (n : Nat) (s : State) : (s.skipBus n).seq = s.seq := rfl
@[simp] theorem skipBus_pollN (n : Nat) (s : State) : (s.skipBus n).pollN = s.pollN := rfl
@[simp] theorem skipBus_req (n : Nat) (s : State) : (s.skipBus n).req = s.req := rfl
@[simp] theorem skipBus_result (n : Nat) (s : State) : (s.skipBus n).result = s.result := rfl
@[simp] theorem skipBus_trace (n : Nat) (s : State) : (s.skipBus n).trace = s.trace := rfl
@[simp] theorem skipBus_requests (n : Nat) (s : State) : (s.skipBus n).requests = s.requests := rfl
@[simp] theorem skipBus_busAnswers (n : Nat) (s : State) : (s.skipBus n).busAnswers = s.busAnswers.drop n := rfl
@[simp] theorem skipBus_busySamples (n : Nat) (s : State) : (s.skipBus n).busySamples = s.busySamples := rfl
@[simp] theorem skipBus_freeBus (n : Nat) (s : State) : (s.skipBus n).freeBus = s.freeBus + (n - s.busAnswers.length) := rfl
@[simp] theorem skipBus_freeBusy (n : Nat) (s : State) : (s.skipBus n).freeBusy = s.freeBusy := rfl

/-! ### skipBusy -/

@[simp] theorem skipBusy_cfg (n : Nat) (s : State) : (s.skipBusy n).cfg = s.cfg := rfl
@[simp] theorem skipBusy_drvState (n : Nat) (s : State) : (s.skipBusy n).drvState = s.drvState := rfl
@[simp] theorem skipBusy_fb (n : Nat) (s : State) : (s.skipBusy n).fb = s.fb := rfl
@[simp] theorem skipBusy_rstOut (n : Nat) (s : State) : (s.skipBusy n).rstOut = s.rstOut := rfl
@[simp] theorem skipBusy_dcOut (n : Nat) (s : State) : (s.skipBusy n).dcOut = s.dcOut := rfl
@[simp] theorem skipBusy_seq (n : Nat) (s : State) : (s.skipBusy n).seq = s.seq := rfl
@[simp] theorem skipBusy_pollN (n : Nat) (s : State) : (s.skipBusy n).pollN = s.pollN := rfl
@[simp] theorem skipBusy_req (n : Nat) (s : State) : (s.skipBusy n).req = s.req := rfl
@[simp] theorem skipBusy_result (n : Nat) (s : State) : (s.skipBusy n).result = s.result := rfl
@[simp] theorem skipBusy_trace (n : Nat) (s : State) : (s.skipBusy n).trace = s.trace := rfl
@[simp] theorem skipBusy_requests (n : Nat) (s : State) : (s.skipBusy n).requests = s.requests := rfl
@[simp] theorem skipBusy_busAnswers (n : Nat) (s : State) : (s.skipBusy n).busAnswers = s.busAnswers := rfl
@[simp] theorem skipBusy_busySamples (n : Nat) (s : State) : (s.skipBusy n).busySamples = s.busySamples.drop n := rfl
@[simp] theorem skipBusy_freeBus (n : Nat) (s : State) : (s.skipBusy n).freeBus = s.freeBus := rfl
@[simp] theorem skipBusy_freeBusy (n : Nat) (s : State) : (s.skipBusy n).freeBusy = s.freeBusy + (n - s.busySamples.length) := rfl

/-! ### endRequest -/

@[simp] theorem endRequest_cfg (r : Result) (s : State) : (endRequest r s).cfg = s.cfg := rfl
@[simp] theorem endRequest_drvState (r : Result) (s : State) : (endRequest r s).drvState = s.drvState := rfl
@[simp] theorem endRequest_fb (r : Result) (s : State) : (endRequest r s).fb = s.fb := rfl
@[simp] theorem endRequest_rstOut (r : Result) (s : State) : (endRequest r s).rstOut = s.rstOut := rfl
@[simp] theorem endRequest_dcOut (r : Result) (s : State) : (endRequest r s).dcOut = s.dcOut := rfl
@[simp] theorem endRequest_seq (r : Result) (s : State) : (endRequest r s).seq = .idle := rfl
@[simp] theorem endRequest_pollN (r : Result) (s : State) : (endRequest r s).pollN = none := rfl
@[simp] theorem endRequest_req (r : Result) (s : State) : (endRequest r s).req = s.req := rfl
@[simp] theorem endRequest_result (r : Result) (s : State) : (endRequest r s).result = some r := rfl
@[simp] theorem endRequest_trace (r : Result) (s : State) : (endRequest r s).trace = s.trace := rfl
@[simp] theorem endRequest_requests (r : Result) (s : State) : (endRequest r s).requests = s.requests := rfl
@[simp] theorem endRequest_busAnswers (r : Result) (s : State) : (endRequest r s).busAnswers = s.busAnswers := rfl
@[simp] theorem endRequest_busySamples (r : Result) (s : State) : (endRequest r s).busySamples = s.busySamples := rfl
@[simp] theorem endRequest_freeBus (r : Result) (s : State) : (endRequest r s).freeBus = s.freeBus := rfl
@[simp] theorem endRequest_freeBusy (r : Result) (s : State) : (endRequest r s).freeBusy = s.freeBusy := rfl

/-! ### returnOk -/

@[simp] theorem returnOk_cfg (s : State) : (returnOk s).cfg = s.cfg := rfl
@[simp] theorem returnOk_drvState (s : State) : (returnOk s).drvState = s.drvState := rfl
@[simp] theorem returnOk_fb (s : State) : (returnOk s).fb = s.fb := rfl
@[simp] theorem returnOk_rstOut (s : State) : (returnOk s).rstOut = s.rstOut := rfl
@[simp] theorem returnOk_dcOut (s : State) : (returnOk s).dcOut = s.dcOut := rfl
@[simp] theorem returnOk_seq (s : State) : (returnOk s).seq = .idle := rfl
@[simp] theorem returnOk_pollN (s : State) : (returnOk s).pollN = none := rfl
@[simp] theorem returnOk_req (s : State) : (returnOk s).req = s.req := rfl
@[simp] theorem returnOk_result (s : State) : (returnOk s).result = some .ok := rfl
@[simp] theorem returnOk_trace (s : State) : (returnOk s).trace = s.trace := rfl
@[simp] theorem returnOk_requests (s : State) : (returnOk s).requests = s.requests := rfl
@[simp] theorem returnOk_busAnswers (s : State) : (returnOk s).busAnswers = s.busAnswers := rfl
@[simp] theorem returnOk_busySamples (s : State) : (returnOk s).busySamples = s.busySamples := rfl
@[simp] theorem returnOk_freeBus (s : State) : (returnOk s).freeBus = s.freeBus := rfl
@[simp] theorem returnOk_freeBusy (s : State) : (returnOk s).freeBusy = s.freeBusy := rfl

/-! ### raiseError -/

@[simp] theorem raiseError_cfg (k : ErrorKind) (s : State) : (raiseError k s).cfg = s.cfg := rfl
@[simp] theorem raiseError_drvState (k : ErrorKind) (s : State) : (raiseError k s).drvState = s.drvState := rfl
@[simp] theorem raiseError_fb (k : ErrorKind) (s : State) : (raiseError k s).fb = s.fb := rfl
@[simp] theorem raiseError_rstOut (k : ErrorKind) (s : State) : (raiseError k s).rstOut = s.rstOut := rfl
@[simp] theorem raiseError_dcOut (k : ErrorKind) (s : State) : (raiseError k s).dcOut = s.dcOut := rfl
@[simp] theorem raiseError_seq (k : ErrorKind) (s : State) : (raiseError k s).seq = .idle := rfl
@[simp] theorem raiseError_pollN (k : ErrorKind) (s : State) : (raiseError k s).pollN = none := rfl
@[simp] theorem raiseError_req (k : ErrorKind) (s : State) : (raiseError k s).req = s.req := rfl
@[simp] theorem raiseError_result (k : ErrorKind) (s : State) : (raiseError k s).result = some (.err k) := rfl
@[simp] theorem raiseError_trace (k : ErrorKind) (s : State) : (raiseError k s).trace = s.trace := rfl
@[simp] theorem raiseError_requests (k : ErrorKind) (s : State) : (raiseError k s).requests = s.requests := rfl
@[simp] theorem raiseError_busAnswers (k : ErrorKind) (s : State) : (raiseError k s).busAnswers = s.busAnswers := rfl
@[simp] theorem raiseError_busySamples (k : ErrorKind) (s : State) : (raiseError k s).busySamples = s.busySamples := rfl
@[simp] theorem raiseError_freeBus (k : ErrorKind) (s : State) : (raiseError k s).freeBus = s.freeBus := rfl
@[simp] theorem raiseError_freeBusy (k : ErrorKind) (s : State) : (raiseError k s).freeBusy = s.freeBusy := rfl

/-! ### writeDrvState -/

@[simp] theorem writeDrvState_cfg (st : DrvState) (s : State) : (writeDrvState st s).cfg = s.cfg := rfl
@[simp] theorem writeDrvState_drvState (st : DrvState) (s : State) : (writeDrvState st s).drvState = st := rfl
@[simp] theorem writeDrvState_fb (st : DrvState) (s : State) : (writeDrvState st s).fb = s.fb := rfl
@[simp] theorem writeDrvState_rstOut (st : DrvState) (s : State) : (writeDrvState st s).rstOut = s.rstOut := rfl
@[simp] theorem writeDrvState_dcOut (st : DrvState) (s : State) : (writeDrvState st s).dcOut = s.dcOut := rfl
@[simp] theorem writeDrvState_seq (st : DrvState) (s : State) : (writeDrvState st s).seq = s.seq := rfl
@[simp] theorem writeDrvState_pollN (st : DrvState) (s : State) : (writeDrvState st s).pollN = s.pollN := rfl
@[simp] theorem writeDrvState_req (st : DrvState) (s : State) : (writeDrvState st s).req = s.req := rfl
@[simp] theorem writeDrvState_result (st : DrvState) (s : State) : (writeDrvState st s).result = s.result := rfl
@[simp] theorem writeDrvState_trace (st : DrvState) (s : State) : (writeDrvState st s).trace = s.trace := rfl
@[simp] theorem writeDrvState_requests (st : DrvState) (s : State) : (writeDrvState st s).requests = s.requests := rfl
@[simp] theorem writeDrvState_busAnswers (st : DrvState) (s : State) : (writeDrvState st s).busAnswers = s.busAnswers := rfl
@[simp] theorem writeDrvState_busySamples (st : DrvState) (s : State) : (writeDrvState st s).busySamples = s.busySamples := rfl
@[simp] theorem writeDrvState_freeBus (st : DrvState) (s : State) : (writeDrvState st s).freeBus = s.freeBus := rfl
@[simp] theorem writeDrvState_freeBusy (st : DrvState) (s : State) : (writeDrvState st s).freeBusy = s.freeBusy := rfl

/-! ### startPollCount -/

@[simp] theorem startPollCount_cfg (s : State) : (startPollCount s).cfg = s.cfg := rfl
@[simp] theorem startPollCount_drvState (s : State) : (startPollCount s).drvState = s.drvState := rfl
@[simp] theorem startPollCount_fb (s : State) : (startPollCount s).fb = s.fb := rfl
@[simp] theorem startPollCount_rstOut (s : State) : (startPollCount s).rstOut = s.rstOut := rfl
@[simp] theorem startPollCount_dcOut (s : State) : (startPollCount s).dcOut = s.dcOut := rfl
@[simp] theorem startPollCount_seq (s : State) : (startPollCount s).seq = s.seq := rfl
@[simp] theorem startPollCount_pollN (s : State) : (startPollCount s).pollN = some 0 := rfl
@[simp] theorem startPollCount_req (s : State) : (startPollCount s).req = s.req := rfl
@[simp] theorem startPollCount_result (s : State) : (startPollCount s).result = s.result := rfl
@[simp] theorem startPollCount_trace (s : State) : (startPollCount s).trace = s.trace := rfl
@[simp] theorem startPollCount_requests (s : State) : (startPollCount s).requests = s.requests := rfl
@[simp] theorem startPollCount_busAnswers (s : State) : (startPollCount s).busAnswers = s.busAnswers := rfl
@[simp] theorem startPollCount_busySamples (s : State) : (startPollCount s).busySamples = s.busySamples := rfl
@[simp] theorem startPollCount_freeBus (s : State) : (startPollCount s).freeBus = s.freeBus := rfl
@[simp] theorem startPollCount_freeBusy (s : State) : (startPollCount s).freeBusy = s.freeBusy := rfl

/-! ### countPoll -/

@[simp] theorem countPoll_cfg (s : State) : (countPoll s).cfg = s.cfg := rfl
@[simp] theorem countPoll_drvState (s : State) : (countPoll s).drvState = s.drvState := rfl
@[simp] theorem countPoll_fb (s : State) : (countPoll s).fb = s.fb := rfl
@[simp] theorem countPoll_rstOut (s : State) : (countPoll s).rstOut = s.rstOut := rfl
@[simp] theorem countPoll_dcOut (s : State) : (countPoll s).dcOut = s.dcOut := rfl
@[simp] theorem countPoll_seq (s : State) : (countPoll s).seq = s.seq := rfl
@[simp] theorem countPoll_pollN (s : State) : (countPoll s).pollN = s.pollN.map (· + 1) := rfl
@[simp] theorem countPoll_req (s : State) : (countPoll s).req = s.req := rfl
@[simp] theorem countPoll_result (s : State) : (countPoll s).result = s.result := rfl
@[simp] theorem countPoll_trace (s : State) : (countPoll s).trace = s.trace := rfl
@[simp] theorem countPoll_requests (s : State) : (countPoll s).requests = s.requests := rfl
@[simp] theorem countPoll_busAnswers (s : State) : (countPoll s).busAnswers = s.busAnswers := rfl
@[simp] theorem countPoll_busySamples (s : State) : (countPoll s).busySamples = s.busySamples := rfl
@[simp] theorem countPoll_freeBus (s : State) : (countPoll s).freeBus = s.freeBus := rfl
@[simp] theorem countPoll_freeBusy (s : State) : (countPoll s).freeBusy = s.freeBusy := rfl

/-! ### dropPollCount -/

@[simp] theorem dropPollCount_cfg (s : State) : (dropPollCount s).cfg = s.cfg := rfl
@[simp] theorem dropPollCount_drvState (s : State) : (dropPollCount s).drvState = s.drvState := rfl
@[simp] theorem dropPollCount_fb (s : State) : (dropPollCount s).fb = s.fb := rfl
@[simp] theorem dropPollCount_rstOut (s : State) : (dropPollCount s).rstOut = s.rstOut := rfl
@[simp] theorem dropPollCount_dcOut (s : State) : (dropPollCount s).dcOut = s.dcOut := rfl
@[simp] theorem dropPollCount_seq (s : State) : (dropPollCount s).seq = s.seq := rfl
@[simp] theorem dropPollCount_pollN (s : State) : (dropPollCount s).pollN = none := rfl
@[simp] theorem dropPollCount_req (s : State) : (dropPollCount s).req = s.req := rfl
@[simp] theorem dropPollCount_result (s : State) : (dropPollCount s).result = s.result := rfl
@[simp] theorem dropPollCount_trace (s : State) : (dropPollCount s).trace = s.trace := rfl
@[simp] theorem dropPollCount_requests (s : State) : (dropPollCount s).requests = s.requests := rfl
@[simp] theorem dropPollCount_busAnswers (s : State) : (dropPollCount s).busAnswers = s.busAnswers := rfl
@[simp] theorem dropPollCount_busySamples (s : State) : (dropPollCount s).busySamples = s.busySamples := rfl
@[simp] theorem dropPollCount_freeBus (s : State) : (dropPollCount s).freeBus = s.freeBus := rfl
@[simp] theorem dropPollCount_freeBusy (s : State) : (dropPollCount s).freeBusy = s.freeBusy := rfl

/-! ### startTasks -/

@[simp] theorem startTasks_cfg (ts : List Task) (s : State) : (startTasks ts s).cfg = s.cfg := rfl
@[simp] theorem startTasks_drvState (ts : List Task) (s : State) : (startTasks ts s).drvState = s.drvState := rfl
@[simp] theorem startTasks_fb (ts : List Task) (s : State) : (startTasks ts s).fb = s.fb := rfl
@[simp] theorem startTasks_rstOut (ts : List Task) (s : State) : (startTasks ts s).rstOut = s.rstOut := rfl
@[simp] theorem startTasks_dcOut (ts : List Task) (s : State) : (startTasks ts s).dcOut = s.dcOut := rfl
@[simp] theorem startTasks_seq (ts : List Task) (s : State) : (startTasks ts s).seq = .running ts := rfl
@[simp] theorem startTasks_pollN (ts : List Task) (s : State) : (startTasks ts s).pollN = s.pollN := rfl
@[simp] theorem startTasks_req (ts : List Task) (s : State) : (startTasks ts s).req = s.req := rfl
@[simp] theorem startTasks_result (ts : List Task) (s : State) : (startTasks ts s).result = none := rfl
@[simp] theorem startTasks_trace (ts : List Task) (s : State) : (startTasks ts s).trace = s.trace := rfl
@[simp] theorem startTasks_requests (ts : List Task) (s : State) : (startTasks ts s).requests = s.requests := rfl
@[simp] theorem startTasks_busAnswers (ts : List Task) (s : State) : (startTasks ts s).busAnswers = s.busAnswers := rfl
@[simp] theorem startTasks_busySamples (ts : List Task) (s : State) : (startTasks ts s).busySamples = s.busySamples := rfl
@[simp] theorem startTasks_freeBus (ts : List Task) (s : State) : (startTasks ts s).freeBus = s.freeBus := rfl
@[simp] theorem startTasks_freeBusy (ts : List Task) (s : State) : (startTasks ts s).freeBusy = s.freeBusy := rfl

/-! ### presentRequest -/

@[simp] theorem presentRequest_cfg (r : Request) (rs : List Request) (s : State) : (presentRequest r rs s).cfg = s.cfg := rfl
@[simp] theorem presentRequest_drvState (r : Request) (rs : List Request) (s : State) : (presentRequest r rs s).drvState = s.drvState := rfl
@[simp] theorem presentRequest_fb (r : Request) (rs : List Request) (s : State) : (presentRequest r rs s).fb = s.fb := rfl
@[simp] theorem presentRequest_rstOut (r : Request) (rs : List Request) (s : State) : (presentRequest r rs s).rstOut = s.rstOut := rfl
@[simp] theorem presentRequest_dcOut (r : Request) (rs : List Request) (s : State) : (presentRequest r rs s).dcOut = s.dcOut := rfl
@[simp] theorem presentRequest_seq (r : Request) (rs : List Request) (s : State) : (presentRequest r rs s).seq = s.seq := rfl
@[simp] theorem presentRequest_pollN (r : Request) (rs : List Request) (s : State) : (presentRequest r rs s).pollN = s.pollN := rfl
@[simp] theorem presentRequest_req (r : Request) (rs : List Request) (s : State) : (presentRequest r rs s).req = r := rfl
@[simp] theorem presentRequest_result (r : Request) (rs : List Request) (s : State) : (presentRequest r rs s).result = s.result := rfl
@[simp] theorem presentRequest_trace (r : Request) (rs : List Request) (s : State) : (presentRequest r rs s).trace = s.trace := rfl
@[simp] theorem presentRequest_requests (r : Request) (rs : List Request) (s : State) : (presentRequest r rs s).requests = rs := rfl
@[simp] theorem presentRequest_busAnswers (r : Request) (rs : List Request) (s : State) : (presentRequest r rs s).busAnswers = s.busAnswers := rfl
@[simp] theorem presentRequest_busySamples (r : Request) (rs : List Request) (s : State) : (presentRequest r rs s).busySamples = s.busySamples := rfl
@[simp] theorem presentRequest_freeBus (r : Request) (rs : List Request) (s : State) : (presentRequest r rs s).freeBus = s.freeBus := rfl
@[simp] theorem presentRequest_freeBusy (r : Request) (rs : List Request) (s : State) : (presentRequest r rs s).freeBusy = s.freeBusy := rfl

end Sys2Proof.Machine
end

