-- ==== Sys2Proof/Laws/Codec.lean ====
section
/-! SUPPORT. Byte halves and their joining, and that an opcode byte selects its one command. -/

namespace Sys2Proof.Machine

theorem getLsbD_fromBytes (lo hi : Byte) (i : Nat) :
    (fromBytes lo hi).getLsbD i = if i < 8 then lo.getLsbD i else hi.getLsbD (i - 8) :=
  BitVec.getLsbD_append (x := hi) (y := lo)

@[simp] theorem lo8_fromBytes (lo hi : Byte) : lo8 (fromBytes lo hi) = lo := by
  apply BitVec.eq_of_getLsbD_eq
  intro i h
  rw [lo8, BitVec.getLsbD_extractLsb', getLsbD_fromBytes]
  simp [h]

@[simp] theorem hi8_fromBytes (lo hi : Byte) : hi8 (fromBytes lo hi) = hi := by
  apply BitVec.eq_of_getLsbD_eq
  intro i h
  rw [hi8, BitVec.getLsbD_extractLsb', getLsbD_fromBytes]
  simp [h]

@[simp] theorem fromBytes_lo8_hi8 (v : Half) : fromBytes (lo8 v) (hi8 v) = v := by
  apply BitVec.eq_of_getLsbD_eq
  intro i h
  rw [getLsbD_fromBytes, lo8, hi8, BitVec.getLsbD_extractLsb', BitVec.getLsbD_extractLsb']
  by_cases h8 : i < 8
  · simp [h8]
  · have h1 : i - 8 < 8 := by omega
    have h2 : 8 + (i - 8) = i := by omega
    simp [h8, h1, h2]

theorem lo8_eq_setWidth (v : Half) : lo8 v = v.setWidth 8 := by
  apply BitVec.eq_of_toNat_eq
  simp [lo8]

theorem hi8_eq_setWidth (v : Half) : hi8 v = (v >>> 8).setWidth 8 := by
  apply BitVec.eq_of_toNat_eq
  simp [hi8]

theorem lo8_rowOf (v : Nat) : lo8 (rowOf v) = BitVec.ofNat 8 v := by
  apply BitVec.eq_of_toNat_eq
  simp [lo8, rowOf, BitVec.extractLsb'_toNat]

theorem hi8_rowOf (v : Nat) : hi8 (rowOf v) = BitVec.ofNat 8 (v / 256) := by
  apply BitVec.eq_of_toNat_eq
  simp [hi8, rowOf, BitVec.extractLsb'_toNat, Nat.shiftRight_eq_div_pow]
  omega

theorem opcodeOf_mem (o : Opcodes) (k : Cmd) : opcodeOf o k ∈ o.toList := by
  cases k <;> simp [opcodeOf, Opcodes.toList]

/-- With pairwise different opcode bytes (00_scope.md R5), a command's opcode byte selects that command. -/
theorem commandOf_opcodeOf {o : Opcodes} (h : o.toList.Nodup) (k : Cmd) :
    commandOf o (opcodeOf o k) = some k := by
  simp only [Opcodes.toList, List.nodup_cons, List.mem_cons, not_or] at h
  cases k <;> simp [commandOf, allCommands, opcodeOf, *]

/-- The command an opcode byte selects has that opcode byte. -/
theorem opcodeOf_of_commandOf {o : Opcodes} {op : Byte} {k : Cmd} (h : commandOf o op = some k) :
    opcodeOf o k = op := by
  simpa using List.find?_some h

end Sys2Proof.Machine
end

