-- ==== Sys2Proof/Laws/Flow.lean ====
section
/-! SUPPORT. The environment's answers as streams, and what transfers, `Send` and `WaitIdle` can do, each said once. -/

namespace Sys2Proof.Machine

@[simp] theorem State.busAt_skipBus (s : State) (n j : Nat) : (s.skipBus n).busAt j = s.busAt (n + j) := by
  simp only [State.busAt, skipBus_busAnswers, skipBus_freeBus, List.getElem?_drop, List.length_drop]
  cases h : s.busAnswers[n + j]? with
  | some a => rfl
  | none =>
    have : s.busAnswers.length ≤ n + j := List.getElem?_eq_none_iff.1 h
    simp only
    congr 1
    omega

@[simp] theorem State.busyAt_skipBusy (s : State) (n j : Nat) : (s.skipBusy n).busyAt j = s.busyAt (n + j) := by
  simp only [State.busyAt, skipBusy_busySamples, skipBusy_freeBusy, List.getElem?_drop, List.length_drop]
  cases h : s.busySamples[n + j]? with
  | some a => rfl
  | none =>
    have : s.busySamples.length ≤ n + j := List.getElem?_eq_none_iff.1 h
    simp only
    congr 1
    omega

theorem State.busAt_congr {s t : State} (h : t.busAnswers = s.busAnswers) (h' : t.freeBus = s.freeBus) (j : Nat) :
    t.busAt j = s.busAt j := by
  simp only [State.busAt, h, h']

theorem State.busyAt_congr {s t : State} (h : t.busySamples = s.busySamples) (h' : t.freeBusy = s.freeBusy)
    (j : Nat) : t.busyAt j = s.busyAt j := by
  simp only [State.busyAt, h, h']

theorem transfer_ok {s : State} (m : SelectMode) (bytes : List Byte) (h : s.busAt 0 = .ok) :
    transfer m bytes s = .go (afterTransfers [(m, bytes)] s) := by
  have h' : (setMode m s).busAt 0 = .ok := h
  simp only [transfer, busWrite, h']
  simp [afterTransfers, emit, setMode, State.skipBus, okEvents, lastMode]

theorem transfer_err {s : State} (m : SelectMode) (bytes : List Byte) (h : s.busAt 0 = .err) :
    transfer m bytes s = .stop .busFailure (afterFailedTransfer [(m, bytes)] 0 s) := by
  have h' : (setMode m s).busAt 0 = .err := h
  simp only [transfer, busWrite, h']
  simp [afterFailedTransfer, emit, setMode, State.skipBus, failEvents, lastMode]

/-- Transfers one after another. -/
def transferAll : List Transfer → State → Flow
  | [], s => .go s
  | (m, bytes) :: rest, s => (transfer m bytes s).andThen (transferAll rest)

theorem Flow.andThen_assoc (fl : Flow) (f g : State → Flow) :
    (fl.andThen f).andThen g = fl.andThen fun s => (f s).andThen g := by
  cases fl <;> rfl

@[simp] theorem Flow.go_andThen (s : State) (f : State → Flow) : (Flow.go s).andThen f = f s := rfl

@[simp] theorem Flow.stop_andThen (k : ErrorKind) (s : State) (f : State → Flow) :
    (Flow.stop k s).andThen f = .stop k s := rfl

@[simp] theorem Flow.andThen_go (fl : Flow) : fl.andThen .go = fl := by cases fl <;> rfl

/-- What follows a part of a request matters only in the states that part goes on in. -/
theorem Flow.andThen_congr {fl : Flow} {f g : State → Flow} (h : ∀ s, fl = .go s → f s = g s) :
    fl.andThen f = fl.andThen g := by
  cases fl with
  | go s => exact h s rfl
  | stop k s => rfl

theorem transferAll_append (a b : List Transfer) (s : State) :
    transferAll (a ++ b) s = (transferAll a s).andThen (transferAll b) := by
  induction a generalizing s with
  | nil => rfl
  | cons t rest ih =>
    simp only [List.cons_append, transferAll, Flow.andThen_assoc]
    congr 1
    funext s'
    exact ih s'

theorem send_eq_transferAll (d : Descriptor) : send d = transferAll (transfersOf d.op d.data) := by
  funext s
  rcases d with ⟨op, _ | ⟨b, rest⟩⟩
  · simp [send, transfersOf, transferAll]
  · simp [send, transfersOf, transferAll]

theorem sendAll_eq_transferAll (ds : List Descriptor) :
    sendAll ds = transferAll (ds.flatMap fun d => transfersOf d.op d.data) := by
  induction ds with
  | nil => rfl
  | cons d rest ih =>
    funext s
    simp only [sendAll, List.flatMap_cons, transferAll_append, ih, send_eq_transferAll]

theorem afterTransfers_cons (t : Transfer) (rest : List Transfer) (s : State) :
    afterTransfers rest (afterTransfers [t] s) = afterTransfers (t :: rest) s := by
  cases s
  simp [afterTransfers, State.skipBus, okEvents, lastMode, Nat.add_comm]
  omega

theorem transferAll_ok (ts : List Transfer) (s : State) (h : BusOk s ts.length) :
    transferAll ts s = .go (afterTransfers ts s) := by
  induction ts generalizing s with
  | nil => cases s; simp [transferAll, afterTransfers, State.skipBus, okEvents, lastMode]
  | cons t rest ih =>
    rw [transferAll, transfer_ok _ _ (h 0 (by simp)), Flow.go_andThen, ih, afterTransfers_cons]
    intro j hj
    have := h (1 + j) (by simp; omega)
    rw [← State.busAt_skipBus] at this
    exact this

theorem transferAll_err (ts : List Transfer) (s : State) (n : Nat) (hn : n < ts.length) (h : BusFailsAt s n) :
    transferAll ts s = .stop .busFailure (afterFailedTransfer ts n s) := by
  induction ts generalizing s n with
  | nil => simp at hn
  | cons t rest ih =>
    cases n with
    | zero =>
      rw [transferAll, transfer_err _ _ h.2, Flow.stop_andThen]
      cases s; simp [afterFailedTransfer, State.skipBus, failEvents, lastMode]
    | succ n =>
      rw [transferAll, transfer_ok _ _ (h.1 0 (by simp)), Flow.go_andThen, ih _ n (by simpa using hn)]
      · cases s
        simp [afterFailedTransfer, afterTransfers, State.skipBus, failEvents, okEvents, lastMode]
        omega
      · refine ⟨fun j hj => ?_, ?_⟩
        · have := h.1 (1 + j) (by omega)
          rw [← State.busAt_skipBus] at this
          exact this
        · have := h.2
          rw [Nat.add_comm n 1, ← State.busAt_skipBus] at this
          exact this

/-- Either the first `n` bus answers are all `ok`, or one of them is the first `err`. -/
theorem busOk_or_failsAt (s : State) (n : Nat) : BusOk s n ∨ ∃ j < n, BusFailsAt s j := by
  induction n with
  | zero => exact .inl fun j hj => absurd hj (by omega)
  | succ n ih =>
    rcases ih with h | ⟨j, hj, h⟩
    · cases hn : s.busAt n with
      | ok =>
        refine .inl fun j hj => ?_
        rcases Nat.lt_succ_iff_lt_or_eq.1 hj with hj | rfl
        · exact h j hj
        · exact hn
      | err => exact .inr ⟨n, by omega, h, hn⟩
    · exact .inr ⟨j, by omega, h⟩

theorem pollLoop_idle (n k : Nat) (s : State) (c : Nat) (hc : s.pollN = some c) (hk : k < n)
    (hb : ∀ j < k, s.busyAt j = true) (hi : s.busyAt k = false) :
    pollLoop n s = .go { s.skipBusy (k + 1) with trace := s.trace ++ waitEvents k, pollN := some (c + k) } := by
  induction k generalizing n s c with
  | zero =>
    obtain ⟨n, rfl⟩ := Nat.exists_eq_succ_of_ne_zero (Nat.ne_of_gt hk)
    simp only [pollLoop, busyRead, hi]
    cases s
    simp_all [emit, State.skipBusy, waitEvents]
  | succ k ih =>
    obtain ⟨n, rfl⟩ := Nat.exists_eq_succ_of_ne_zero (Nat.ne_of_gt (Nat.lt_of_le_of_lt (Nat.zero_le _) hk))
    have h0 : s.busyAt 0 = true := hb 0 (by omega)
    have hn : n ≠ 0 := by omega
    simp only [pollLoop, busyRead, h0, hn, if_false]
    rw [ih n _ (c + 1) (by simp [hc]) (by omega) ?_ ?_]
    · cases s
      simp [emit, delay, countPoll, State.skipBusy, waitEvents]
      omega
    · intro j hj
      have := hb (1 + j) (by omega)
      rw [← State.busyAt_skipBusy] at this
      exact this
    · rw [Nat.add_comm k 1, ← State.busyAt_skipBusy] at hi
      exact hi

theorem pollLoop_stuck (n : Nat) (s : State) (c : Nat) (hc : s.pollN = some c) (hb : ∀ j < n, s.busyAt j = true) :
    pollLoop n s =
      .stop .timeout { s.skipBusy n with trace := s.trace ++ timeoutEvents n, pollN := some (c + n) } := by
  induction n generalizing s c with
  | zero => cases s; simp_all [pollLoop, State.skipBusy, timeoutEvents]
  | succ n ih =>
    have h0 : s.busyAt 0 = true := hb 0 (by omega)
    simp only [pollLoop, busyRead, h0]
    by_cases hn : n = 0
    · subst hn
      cases s
      simp_all [emit, countPoll, State.skipBusy, timeoutEvents]
    · obtain ⟨n, rfl⟩ := Nat.exists_eq_succ_of_ne_zero hn
      simp only [hn, if_false]
      rw [ih _ (c + 1) (by simp [hc]) ?_]
      · cases s
        simp [emit, delay, countPoll, State.skipBusy, timeoutEvents]
        omega
      · intro j hj
        have := hb (1 + j) (by omega)
        rw [← State.busyAt_skipBusy] at this
        exact this

theorem waitIdle_idle {s : State} {k : Nat} (h : IdleAfter s k) :
    waitIdle s = .go (afterWait (k + 1) (waitEvents k) s) := by
  rw [waitIdle, pollLoop_idle s.cfg.maxPolls k (startPollCount s) 0 rfl h.1 h.2.1 h.2.2]
  rfl

theorem waitIdle_stuck {s : State} (h : StuckBusy s) :
    waitIdle s = .stop .timeout
      { s.skipBusy s.cfg.maxPolls with
        trace := s.trace ++ timeoutEvents s.cfg.maxPolls, pollN := some s.cfg.maxPolls } := by
  rw [waitIdle, pollLoop_stuck s.cfg.maxPolls (startPollCount s) 0 rfl h]
  simp only [Nat.zero_add]
  rfl

theorem idleAfter_or_stuck (s : State) : (∃ k, IdleAfter s k) ∨ StuckBusy s := by
  by_cases h : StuckBusy s
  · exact .inr h
  · simp only [StuckBusy, not_forall] at h
    have hex : ∃ j, j < s.cfg.maxPolls ∧ s.busyAt j = false := by
      obtain ⟨j, hj, hb⟩ := h
      exact ⟨j, hj, by simpa using hb⟩
    refine .inl ⟨Nat.find hex, (Nat.find_spec hex).1, fun j hj => ?_, (Nat.find_spec hex).2⟩
    have := Nat.find_min hex hj
    have hlt := Nat.lt_trans hj (Nat.find_spec hex).1
    cases hb : s.busyAt j with
    | true => rfl
    | false => exact absurd ⟨hlt, hb⟩ this

/-- What transfers can do: all succeed, or the first one answered `err` raises `BusFailure`. -/
theorem transferAll_cases (ts : List Transfer) (s : State) :
    transferAll ts s = .go (afterTransfers ts s) ∨
      ∃ n < ts.length, BusFailsAt s n ∧ transferAll ts s = .stop .busFailure (afterFailedTransfer ts n s) := by
  rcases busOk_or_failsAt s ts.length with h | ⟨n, hn, h⟩
  · exact .inl (transferAll_ok ts s h)
  · exact .inr ⟨n, hn, h, transferAll_err ts s n hn h⟩

theorem transferAll_go {ts : List Transfer} {s t : State} (h : transferAll ts s = .go t) :
    t = afterTransfers ts s := by
  rcases transferAll_cases ts s with h' | ⟨n, -, -, h'⟩ <;> rw [h'] at h <;> cases h
  rfl

/-- A request's end touches only `SEQ`, `POLL_N` and the result. -/
theorem endRequest_eq_ended (r : Result) (s : State) : endRequest r s = ended r s := rfl

@[simp] theorem Flow.finish_go (s : State) : (Flow.go s).finish = ended .ok s := rfl

@[simp] theorem Flow.finish_stop (k : ErrorKind) (s : State) : (Flow.stop k s).finish = ended (.err k) s := rfl

@[simp] theorem Flow.settle_go (s : State) : (Flow.go s).settle = s := rfl

@[simp] theorem Flow.settle_stop (k : ErrorKind) (s : State) : (Flow.stop k s).settle = ended (.err k) s := rfl

theorem resetPulse_eq (s : State) : resetPulse s = afterPulse s := by
  simp [resetPulse, afterPulse, delay, rstDeassert, rstAssert, emit, pulseEvents]

/-- `WaitIdle` with its `POLL_N` dropped: what a request sees of it. -/
theorem ended_waitIdle_stuck (k : ErrorKind) (s : State) :
    ended (.err k)
      { s.skipBusy s.cfg.maxPolls with
        trace := s.trace ++ timeoutEvents s.cfg.maxPolls, pollN := some s.cfg.maxPolls } =
      ended (.err k) (afterWait s.cfg.maxPolls (timeoutEvents s.cfg.maxPolls) s) := rfl

end Sys2Proof.Machine
end

