-- ==== Sys2Proof/Laws/Driver.lean ====
section
/-! SUPPORT. The bodies of INIT, UPDATE and SLEEP as transfers and waits: the descriptors the model builds put exactly
the transfers of `Safety` on the bus. -/

namespace Sys2Proof.Machine

theorem initializationSequence_transfers (c : Config) :
    ((initializationSequence c c.width c.height c.rot).flatMap fun d => transfersOf d.op d.data) =
      initTransfers c := by
  simp [initializationSequence, initTransfers, transfersOf, driverOutputControl, dataEntryMode, ramXRange, ramYRange,
    borderWaveform, tempSensor, updateCtrl1, opcodeOf, bytePair, lo8_rowOf, hi8_rowOf, columnOf]

theorem initTransfers_length (c : Config) : (initTransfers c).length = 14 := by
  simp [initTransfers, transfersOf, bytePair]

theorem initFlow_eq (s : State) :
    initFlow s =
      ((waitIdle (afterPulse s)).andThen (transferAll (initTransfers s.cfg))).andThen fun s' =>
        .go (writeDrvState .ready s') := by
  rw [initFlow, resetPulse_eq, sendAll_eq_transferAll, initializationSequence_transfers]

theorem planeBytes_length (c : Config) (fb : Framebuffer) (p : PlaneId) : (planeBytes c fb p).length = planeLen c := by
  simp [planeBytes]

/-- What `as_bytes` can do. -/
theorem asBytes_eq (c : Config) (fb : Framebuffer) (p : PlaneId) :
    asBytes c fb p = if planeAllocated c p = true then .ok (planeBytes c fb p) else .error (.planeNotAllocated p) :=
  rfl

theorem planeAllocated_red {c : Config} : planeAllocated c .red = true ↔ c.planes = .two := by
  cases h : c.planes <;> simp [planeAllocated, h]

theorem writeRam_bw {c : Config} {bytes : List Byte} (h : bytes.length = planeLen c) :
    writeRam c .bw bytes = .ok (writeRamBw c bytes) := by
  simp [writeRam, planeAllocated, h]

theorem writeRam_red {c : Config} {bytes : List Byte} (hp : c.planes = .two) (h : bytes.length = planeLen c) :
    writeRam c .red bytes = .ok (writeRamRed c bytes) := by
  simp [writeRam, planeAllocated_red.2 hp, h]

theorem planeDescriptor_bw (c : Config) (fb : Framebuffer) :
    planeDescriptor c fb .bw = .ok (writeRamBw c (planeBytes c fb .bw)) :=
  writeRam_bw (planeBytes_length c fb .bw)

theorem planeDescriptor_red {c : Config} (fb : Framebuffer) (hp : c.planes = .two) :
    planeDescriptor c fb .red = .ok (writeRamRed c (planeBytes c fb .red)) := by
  simp only [planeDescriptor, asBytes_eq, planeAllocated_red.2 hp, if_true]
  exact writeRam_red hp (planeBytes_length c fb .red)

/-- The planes of an UPDATE are never refused, and their descriptors put exactly `planeTransfers` on the bus. -/
theorem planeDescriptors_eq (c : Config) (fb : Framebuffer) :
    ∃ ds, planeDescriptors c fb = .ok ds ∧ (ds.flatMap fun d => transfersOf d.op d.data) = planeTransfers c fb := by
  simp only [planeDescriptors, planeDescriptor_bw, planeTransfers]
  cases h : c.planes with
  | one => exact ⟨_, rfl, by simp [writeRamBw, opcodeOf]⟩
  | two => exact ⟨_, by rw [planeDescriptor_red fb h], by simp [writeRamBw, writeRamRed, opcodeOf]⟩

theorem updateTransfers_eq (c : Config) (fb : Framebuffer) (mode : RefreshMode) :
    updateTransfers c fb mode =
      (([ramXRange c (columnOf 0) (columnOf (c.width - 1)), ramYRange c (rowOf 0) (rowOf (c.height - 1))].flatMap
          fun d => transfersOf d.op d.data) ++ planeTransfers c fb) ++
        (triggerUpdate c mode).flatMap fun d => transfersOf d.op d.data := by
  cases mode <;>
    simp [updateTransfers, transfersOf, ramXRange, ramYRange, opcodeOf, bytePair, lo8_rowOf, hi8_rowOf, columnOf,
      triggerUpdate, updateCtrl2, updateSelection, masterActivation]

theorem setRamWindow_full {c : Config} (hw : 1 ≤ c.width) (hh : 1 ≤ c.height) :
    setRamWindow c 0 0 (c.width - 1) (c.height - 1) =
      .ok [ramXRange c (columnOf 0) (columnOf (c.width - 1)), ramYRange c (rowOf 0) (rowOf (c.height - 1))] := by
  have hr : regionValid c.width c.height 0 0 (c.width - 1) (c.height - 1) = true := by
    simp [regionValid]
    omega
  simp only [setRamWindow, hr, if_true]

/-- UPDATE after its state check, as transfers and a wait. -/
theorem execUpdate_eq {s : State} (mode : RefreshMode) (hr : stateReady s = true) (hw : 1 ≤ s.cfg.width)
    (hh : 1 ≤ s.cfg.height) :
    execUpdate mode s =
      .next (((transferAll (updateTransfers s.cfg s.fb mode) s).andThen fun s' =>
          waitIdle (writeDrvState .updating s')).andThen fun s' => .go (writeDrvState .ready s')).finish := by
  obtain ⟨planes, hok, hts⟩ := planeDescriptors_eq s.cfg s.fb
  simp only [execUpdate, hr, hok, updateFlow, setRamWindow_full hw hh, Bool.true_eq_false, if_false]
  congr 4
  rw [updateTransfers_eq, ← hts, sendAll_eq_transferAll, sendAll_eq_transferAll, sendAll_eq_transferAll,
    transferAll_append, transferAll_append]

theorem sleepFlow_eq (s : State) :
    sleepFlow s = (transferAll (sleepTransfers s.cfg) s).andThen fun s' => .go (writeDrvState .sleeping s') := by
  rw [sleepFlow, sendAll_eq_transferAll]
  simp [sleepSequence, sleepTransfers, deepSleep, opcodeOf]

theorem stateReady_iff {s : State} : stateReady s = true ↔ s.drvState = .ready := by
  simp [stateReady]

end Sys2Proof.Machine
end

