-- ==== Sys2Proof/Laws/Memory.lean ====
section
/-! SUPPORT. One plane's memory: a read after a write, that a write keeps the canonical form, and that two canonical
planes that read alike are equal. -/

namespace Sys2Proof.Machine

theorem Memory.read_of_lt {m : Memory} {i : Nat} (h : ∀ cell ∈ m, i < cell.1) : m.read i = unlistedByte := by
  induction m with
  | nil => rfl
  | cons c rest ih =>
    have hc : i < c.1 := h c (by simp)
    simp only [Memory.read, Nat.ne_of_gt hc, if_false]
    exact ih fun d hd => h d (by simp [hd])

theorem Memory.read_write_same (m : Memory) (hw : m.wf) (i : Nat) (v : Byte) : (m.write i v).read i = v := by
  induction m with
  | nil => by_cases hv : v = unlistedByte <;> simp [Memory.write, Memory.read, hv]
  | cons c rest ih =>
    obtain ⟨⟨hlt, hp⟩, hne⟩ := And.intro (List.pairwise_cons.1 hw.1) hw.2
    have hrest : Memory.wf rest := ⟨hp, fun d hd => hne d (by simp [hd])⟩
    rcases Nat.lt_trichotomy c.1 i with h | h | h
    · simp [Memory.write, h, Memory.read, Nat.ne_of_lt h, ih hrest]
    · subst h
      by_cases hv : v = unlistedByte
      · simp [Memory.write, hv, Memory.read_of_lt hlt]
      · simp [Memory.write, hv, Memory.read]
    · have h' : ¬ c.1 < i := by omega
      have h'' : c.1 ≠ i := by omega
      by_cases hv : v = unlistedByte
      · have : Memory.read (c :: rest) i = unlistedByte := Memory.read_of_lt (by
          intro d hd
          rcases List.mem_cons.1 hd with rfl | hd
          · exact h
          · exact Nat.lt_trans h (hlt d hd))
        simp [Memory.write, h', h'', hv, this]
      · simp [Memory.write, h', h'', hv, Memory.read]

theorem Memory.read_write_other (m : Memory) {i j : Nat} (v : Byte) (h : j ≠ i) :
    (m.write i v).read j = m.read j := by
  induction m with
  | nil =>
    by_cases hv : v = unlistedByte
    · simp [Memory.write, hv]
    · simp [Memory.write, hv, Memory.read, Ne.symm h]
  | cons c rest ih =>
    by_cases h1 : c.1 < i
    · simp [Memory.write, h1, Memory.read, ih]
    · by_cases h2 : c.1 = i
      · by_cases hv : v = unlistedByte
        · simp [Memory.write, h2, hv, Memory.read, Ne.symm h]
        · simp [Memory.write, h2, hv, Memory.read, Ne.symm h]
      · by_cases hv : v = unlistedByte
        · simp [Memory.write, h1, h2, hv]
        · simp [Memory.write, h1, h2, hv, Memory.read, Ne.symm h]

theorem Memory.mem_write {m : Memory} {i : Nat} {v : Byte} {cell : Host.Cell} (h : cell ∈ m.write i v) :
    cell ∈ m ∨ (cell = (i, v) ∧ v ≠ unlistedByte) := by
  induction m with
  | nil =>
    by_cases hv : v = unlistedByte
    · simp [Memory.write, hv] at h
    · simp [Memory.write, hv] at h
      exact .inr ⟨h, hv⟩
  | cons c rest ih =>
    by_cases h1 : c.1 < i
    · simp only [Memory.write, h1, if_true, List.mem_cons] at h
      rcases h with rfl | h
      · simp
      · rcases ih h with h | h
        · simp [h]
        · exact .inr h
    · by_cases h2 : c.1 = i <;> by_cases hv : v = unlistedByte <;>
        simp only [Memory.write, h1, h2, hv, lt_irrefl, if_true, if_false, List.mem_cons] at h ⊢ <;>
        tauto

theorem Memory.write_wf {m : Memory} (hw : m.wf) (i : Nat) (v : Byte) : (m.write i v).wf := by
  refine ⟨?_, fun cell hcell => ?_⟩
  · induction m with
    | nil => by_cases hv : v = unlistedByte <;> simp [Memory.write, hv]
    | cons c rest ih =>
      obtain ⟨⟨hlt, hp⟩, hne⟩ := And.intro (List.pairwise_cons.1 hw.1) hw.2
      have hrest : Memory.wf rest := ⟨hp, fun d hd => hne d (by simp [hd])⟩
      by_cases h1 : c.1 < i
      · simp only [Memory.write, h1, if_true, List.pairwise_cons]
        refine ⟨fun d hd => ?_, ih hrest⟩
        rcases Memory.mem_write hd with hd | ⟨rfl, -⟩
        · exact hlt d hd
        · exact h1
      · by_cases h2 : c.1 = i <;> by_cases hv : v = unlistedByte
        · simpa [Memory.write, h2, hv] using hp
        · simp only [Memory.write, h2, hv, lt_irrefl, if_true, if_false, List.pairwise_cons]
          exact ⟨fun d hd => h2 ▸ hlt d hd, hp⟩
        · simp only [Memory.write, h1, h2, hv, if_true, if_false]
          exact List.pairwise_cons.2 ⟨hlt, hp⟩
        · have h3 : i < c.1 := by omega
          simp only [Memory.write, h1, h2, hv, if_false, List.pairwise_cons, List.mem_cons]
          refine ⟨fun d hd => ?_, hlt, hp⟩
          rcases hd with rfl | hd
          · exact h3
          · exact Nat.lt_trans h3 (hlt d hd)
  · rcases Memory.mem_write hcell with h | ⟨rfl, h⟩
    · exact hw.2 cell h
    · exact h

theorem Memory.ext_of_wf {m m' : Memory} (hw : m.wf) (hw' : m'.wf) (h : ∀ i, m.read i = m'.read i) : m = m' := by
  induction m generalizing m' with
  | nil =>
    cases m' with
    | nil => rfl
    | cons c rest =>
      have := h c.1
      simp only [Memory.read, if_true] at this
      exact absurd this.symm (hw'.2 c (by simp))
  | cons c rest ih =>
    obtain ⟨⟨hlt, hp⟩, hne⟩ := And.intro (List.pairwise_cons.1 hw.1) hw.2
    cases m' with
    | nil =>
      have := h c.1
      simp only [Memory.read, if_true] at this
      exact absurd this (hne c (by simp))
    | cons d rest' =>
      obtain ⟨⟨hlt', hp'⟩, hne'⟩ := And.intro (List.pairwise_cons.1 hw'.1) hw'.2
      have hcd : c.1 = d.1 := by
        rcases Nat.lt_trichotomy c.1 d.1 with hh | hh | hh
        · have := h c.1
          rw [Memory.read_of_lt (m := d :: rest') (by
            intro e he
            rcases List.mem_cons.1 he with rfl | he
            · exact hh
            · exact Nat.lt_trans hh (hlt' e he))] at this
          simp only [Memory.read, if_true] at this
          exact absurd this (hne c (by simp))
        · exact hh
        · have := h d.1
          rw [Memory.read_of_lt (m := c :: rest) (by
            intro e he
            rcases List.mem_cons.1 he with rfl | he
            · exact hh
            · exact Nat.lt_trans hh (hlt e he))] at this
          simp only [Memory.read, if_true] at this
          exact absurd this.symm (hne' d (by simp))
      have hb : c.2 = d.2 := by
        have := h c.1
        simpa [Memory.read, hcd] using this
      have : c = d := Prod.ext hcd hb
      subst this
      congr 1
      refine ih ⟨hp, fun e he => hne e (by simp [he])⟩ ⟨hp', fun e he => hne' e (by simp [he])⟩ fun i => ?_
      have := h i
      by_cases hi : c.1 = i
      · subst hi
        rw [Memory.read_of_lt hlt, Memory.read_of_lt hlt']
      · simpa [Memory.read, hi] using this

end Sys2Proof.Machine
end

