-- ==== Sys2Proof/Laws/Framebuffer.lean ====
section
/-! SUPPORT. Framebuffer geometry, and what the stores of SET_PIXEL and CLEAR leave, each said once. -/

namespace Sys2Proof.Machine

/-! ### Geometry -/

theorem div_eight_lt_bpr {c : Config} {px : Nat} (h : px < c.width) : px / 8 < bpr c := by
  unfold bpr; omega

theorem index_lt_planeLen {c : Config} {row col : Nat} (hr : row < c.height) (hc : col < bpr c) :
    row * bpr c + col < planeLen c := by
  have := Nat.mul_le_mul_right (bpr c) (Nat.succ_le_of_lt hr)
  rw [Nat.succ_mul] at this
  rw [planeLen, Nat.mul_comm (bpr c)]
  omega

theorem locate_lt {c : Config} {px py : Nat} (hx : px < c.width) (hy : py < c.height) :
    (locate c px py).1 < planeLen c :=
  index_lt_planeLen hy (div_eight_lt_bpr hx)

theorem rotate_lt {c : Config} {x y : Nat} (hx : x < logicalWidth c) (hy : y < logicalHeight c) :
    (rotate c x y).1 < c.width ∧ (rotate c x y).2 < c.height := by
  cases h : c.rot <;> simp only [logicalWidth, logicalHeight, h] at hx hy <;> simp only [rotate, h] <;> omega

theorem inBounds_iff {c : Config} {x y : Nat} :
    inBounds c x y = true ↔ x < logicalWidth c ∧ y < logicalHeight c := by
  simp [inBounds]

theorem pixel_lt_planeLen {c : Config} {x y : Nat} (h : inBounds c x y = true) :
    (locate c (rotate c x y).1 (rotate c x y).2).1 < planeLen c := by
  have h := inBounds_iff.1 h
  have := rotate_lt h.1 h.2
  exact locate_lt this.1 this.2

/-! ### Planes -/

@[simp] theorem Framebuffer.plane_setPlane_same (fb : Framebuffer) (p : PlaneId) (m : Memory) :
    (fb.setPlane p m).plane p = m := by cases p <;> rfl

theorem Framebuffer.plane_setPlane_other (fb : Framebuffer) {p q : PlaneId} (m : Memory) (h : q ≠ p) :
    (fb.setPlane p m).plane q = fb.plane q := by
  cases p <;> cases q <;> first | rfl | exact absurd rfl h

theorem Framebuffer.store_ok {c : Config} {fb : Framebuffer} {p : PlaneId} {i : Nat} (v : Byte)
    (ha : planeAllocated c p = true) (hi : i < planeLen c) :
    fb.store c p i v = .ok (fb.setPlane p ((fb.plane p).write i v)) := by
  simp [Framebuffer.store, ha, hi]

theorem storePixel_ok {c : Config} {fb : Framebuffer} {i : Nat} (m : Byte) (col : Color) (hi : i < planeLen c) :
    storePixel c fb i m col = .ok
      { bw := fb.bw.write i (putBit (planeBit col .bw) m (fb.read .bw i))
        red := match c.planes with
          | .one => fb.red
          | .two => fb.red.write i (putBit (planeBit col .red) m (fb.read .red i)) } := by
  rw [storePixel, Framebuffer.store_ok _ (by simp [planeAllocated]) hi]
  cases h : c.planes with
  | one => rfl
  | two =>
    simp only
    rw [Framebuffer.store_ok _ (by simp [planeAllocated, h]) hi]
    rfl

/-- Writes of one plane, first to last. -/
def Memory.writeAll (cells : List (Nat × Byte)) (m : Memory) : Memory :=
  cells.foldl (fun m cell => m.write cell.1 cell.2) m

theorem Memory.writeAll_wf {m : Memory} (hw : m.wf) (cells : List (Nat × Byte)) : (m.writeAll cells).wf := by
  induction cells generalizing m with
  | nil => exact hw
  | cons cell rest ih => exact ih (Memory.write_wf hw _ _)

theorem Memory.read_writeAll_other (m : Memory) (cells : List (Nat × Byte)) (i : Nat)
    (h : ∀ cell ∈ cells, cell.1 ≠ i) : (m.writeAll cells).read i = m.read i := by
  induction cells generalizing m with
  | nil => rfl
  | cons cell rest ih =>
    refine (ih (m.write cell.1 cell.2) fun d hd => h d (by simp [hd])).trans ?_
    exact Memory.read_write_other m _ (Ne.symm (h cell (by simp)))

theorem Memory.read_writeAll_of_function {m : Memory} (hw : m.wf) (cells : List (Nat × Byte)) (f : Nat → Byte)
    (hf : ∀ cell ∈ cells, cell.2 = f cell.1) {i : Nat} (hi : ∃ cell ∈ cells, cell.1 = i) :
    (m.writeAll cells).read i = f i := by
  induction cells generalizing m with
  | nil => simp at hi
  | cons cell rest ih =>
    by_cases hr : ∃ d ∈ rest, d.1 = i
    · exact ih (Memory.write_wf hw _ _) (fun d hd => hf d (by simp [hd])) hr
    · have hne : ∀ d ∈ rest, d.1 ≠ i := fun d hd he => hr ⟨d, hd, he⟩
      have hc : cell.1 = i := by
        obtain ⟨d, hd, he⟩ := hi
        rcases List.mem_cons.1 hd with rfl | hd
        · exact he
        · exact absurd he (hne d hd)
      refine (Memory.read_writeAll_other (m.write cell.1 cell.2) rest i hne).trans ?_
      rw [← hc, Memory.read_write_same m hw]
      exact hf cell (by simp)

theorem Framebuffer.storeAll_ok {c : Config} {p : PlaneId} (ha : planeAllocated c p = true)
    (cells : List (Nat × Byte)) (fb : Framebuffer) (hc : ∀ cell ∈ cells, cell.1 < planeLen c) :
    fb.storeAll c p cells = .ok (fb.setPlane p ((fb.plane p).writeAll cells)) := by
  induction cells generalizing fb with
  | nil => cases p <;> rfl
  | cons cell rest ih =>
    simp only [Framebuffer.storeAll]
    rw [Framebuffer.store_ok _ ha (hc cell (by simp))]
    simp only
    rw [ih _ fun d hd => hc d (by simp [hd])]
    cases p <;> rfl

/-! ### CLEAR's cells -/

theorem mem_fillCells {c : Config} {bit : Bool} {cell : Nat × Byte} :
    cell ∈ fillCells c bit ↔
      ∃ row < c.height, ∃ col < bpr c, cell = (row * bpr c + col, fillByte c bit col) := by
  simp only [fillCells, List.mem_flatMap, List.mem_range, List.mem_map, eq_comm]

theorem fillCells_lt {c : Config} {bit : Bool} {cell : Nat × Byte} (h : cell ∈ fillCells c bit) :
    cell.1 < planeLen c := by
  obtain ⟨row, hr, col, hc, rfl⟩ := mem_fillCells.1 h
  exact index_lt_planeLen hr hc

theorem fillCells_value {c : Config} {bit : Bool} {cell : Nat × Byte} (h : cell ∈ fillCells c bit) :
    cell.2 = fillByte c bit (cell.1 % bpr c) := by
  obtain ⟨row, hr, col, hc, rfl⟩ := mem_fillCells.1 h
  simp [Nat.mod_eq_of_lt hc]

theorem fillCells_covers {c : Config} (bit : Bool) {i : Nat} (h : i < planeLen c) :
    ∃ cell ∈ fillCells c bit, cell.1 = i := by
  have hpos : 0 < bpr c := by
    rcases Nat.eq_zero_or_pos (bpr c) with h0 | h0
    · simp [planeLen, h0] at h
    · exact h0
  refine ⟨(i / bpr c * bpr c + i % bpr c, fillByte c bit (i % bpr c)), mem_fillCells.2 ?_, ?_⟩
  · exact ⟨i / bpr c, Nat.div_lt_of_lt_mul (by simpa [planeLen] using h), i % bpr c, Nat.mod_lt _ hpos, rfl⟩
  · simpa [Nat.mul_comm] using Nat.div_add_mod i (bpr c)

theorem storeFill_ok (c : Config) (fb : Framebuffer) (col : Color) :
    storeFill c fb col = .ok
      { bw := fb.bw.writeAll (fillCells c (planeBit col .bw))
        red := match c.planes with
          | .one => fb.red
          | .two => fb.red.writeAll (fillCells c (planeBit col .red)) } := by
  rw [storeFill, Framebuffer.storeAll_ok (by simp [planeAllocated]) _ _ fun _ h => fillCells_lt h]
  cases h : c.planes with
  | one => rfl
  | two =>
    simp only
    rw [Framebuffer.storeAll_ok (by simp [planeAllocated, h]) _ _ fun _ h => fillCells_lt h]
    rfl

theorem Memory.read_fill {c : Config} {m : Memory} (hw : m.wf) (bit : Bool) {i : Nat} (hi : i < planeLen c) :
    (m.writeAll (fillCells c bit)).read i = fillByte c bit (i % bpr c) :=
  Memory.read_writeAll_of_function hw _ (fun i => fillByte c bit (i % bpr c)) (fun _ h => fillCells_value h)
    (fillCells_covers bit hi)

theorem Memory.read_fill_outside {c : Config} (m : Memory) (bit : Bool) {i : Nat} (hi : planeLen c ≤ i) :
    (m.writeAll (fillCells c bit)).read i = m.read i :=
  Memory.read_writeAll_other _ _ _ fun _ h => Nat.ne_of_lt (Nat.lt_of_lt_of_le (fillCells_lt h) hi)

end Sys2Proof.Machine
end

