-- ==== Sys2Proof/Laws/PerInstr.lean ====
section
/-! SUPPORT. One law per instruction, by name: what its encoded form looks like. A descriptor of the block has its
command's opcode byte and the data length spec/30_encoding.md R68 gives that command; a request has one of the five
operation codes of R62. -/

namespace Sys2Proof.Laws.EncodedForm

/-- The encoded form of an instruction of the block has the opcode byte and the length of its row, or a legal
operation code (30_encoding.md R62, R68). -/
def Statement (i : Instr) : Prop :=
  ∀ c : Config, i.WellFormed c →
    match encode c i with
    | .cmd d => ∃ k, d.op = Machine.opcodeOf c.opc k ∧ d.data.length = Machine.dataLength c k
    | .req r => r.op.toNat < 5

theorem driverOutputControl (lines : Half) (scan : Byte) : Statement (.driverOutputControl lines scan) :=
  fun _ _ => ⟨.driverOutputControl, rfl, rfl⟩

theorem dataEntryMode (v : Byte) : Statement (.dataEntryMode v) :=
  fun _ _ => ⟨.dataEntryMode, rfl, rfl⟩

theorem ramXRange (xs xe : Byte) : Statement (.ramXRange xs xe) :=
  fun _ _ => ⟨.ramXRange, rfl, rfl⟩

theorem ramYRange (ys ye : Half) : Statement (.ramYRange ys ye) :=
  fun _ _ => ⟨.ramYRange, rfl, rfl⟩

theorem borderWaveform (v : Byte) : Statement (.borderWaveform v) :=
  fun _ _ => ⟨.borderWaveform, rfl, rfl⟩

theorem tempSensor (v : Byte) : Statement (.tempSensor v) :=
  fun _ _ => ⟨.tempSensor, rfl, rfl⟩

theorem updateCtrl1 (a b : Byte) : Statement (.updateCtrl1 a b) :=
  fun _ _ => ⟨.updateCtrl1, rfl, rfl⟩

theorem updateCtrl2 (u : Byte) : Statement (.updateCtrl2 u) :=
  fun _ _ => ⟨.updateCtrl2, rfl, rfl⟩

theorem masterActivation : Statement .masterActivation :=
  fun _ _ => ⟨.masterActivation, rfl, rfl⟩

theorem writeRamBw (bytes : List Byte) : Statement (.writeRamBw bytes) :=
  fun _ h => ⟨.writeRamBw, rfl, h⟩

theorem writeRamRed (bytes : List Byte) : Statement (.writeRamRed bytes) :=
  fun _ h => ⟨.writeRamRed, rfl, h.2⟩

theorem deepSleep (v : Byte) : Statement (.deepSleep v) :=
  fun _ _ => ⟨.deepSleep, rfl, rfl⟩

theorem init : Statement .init :=
  fun _ _ => (by decide : (0#3).toNat < 5)

theorem setPixel (x y : Half) (colour : Color) : Statement (.setPixel x y colour) :=
  fun _ _ => (by decide : (1#3).toNat < 5)

theorem clear (colour : Color) : Statement (.clear colour) :=
  fun _ _ => (by decide : (2#3).toNat < 5)

theorem update (mode : RefreshMode) : Statement (.update mode) :=
  fun _ _ => (by decide : (3#3).toNat < 5)

theorem sleep : Statement .sleep :=
  fun _ _ => (by decide : (4#3).toNat < 5)

end Sys2Proof.Laws.EncodedForm
end

