-- ==== Sys2Proof/Tests/Slice0.lean ====
section
/-! SUPPORT. The model's own tests. Expected values are spec/95_test_vectors.md's (the vector is named in each
comment) or hand calculation from the rule named; then one witness for each statement's hypotheses. -/

namespace Sys2Proof.Tests

open Sys2Proof Sys2Proof.Machine

/-! ### Helpers -/

/-- The configuration of programs P3 and P4. -/
def cfgP3 : Config := configOf 8 2 .r0 .one 2

/-- The configuration of program P2. -/
def cfgP2 : Config := configOf 12 3 .r90 .two 3

/-- The panel of program P1. -/
def cfgP1 : Config := configOf 128 296 .r0 .one 1

/-- A constructed block with the environment's coming answers written out. -/
def scripted (c : Config) (st : DrvState) (busy : List Bool) (bus : List BusAnswer) : State :=
  { State.initial c with drvState := st, busySamples := busy, busAnswers := bus }

/-- `n` transfers answered `ok`. -/
def oks (n : Nat) : List BusAnswer := List.replicate n .ok

/-- `op[d0 d1 ...]` of 95_test_vectors.md: a successful `Send` with data. -/
def sent (op : Byte) (data : List Byte) : List Event :=
  [.mode .command, .write [op] .ok, .mode .data, .write data .ok]

/-- `RP` of 95_test_vectors.md. -/
def rp : List Event :=
  [.rst .asserted, .delay .resetHold, .rst .deasserted, .delay .resetSettle]

/-- `I8` of 95_test_vectors.md. -/
def i8 : List Event :=
  sent 0x01 [0x01, 0x00, 0x00] ++ sent 0x11 [0x03] ++ sent 0x44 [0x00, 0x00] ++ sent 0x45 [0x00, 0x00, 0x01, 0x00] ++
    sent 0x3C [0x05] ++ sent 0x18 [0x80] ++ sent 0x21 [0x00, 0x80]

/-- The next state of an outcome, if there is one. -/
def after : Host.Outcome State Fault Refusal → Option State
  | .next s => some s
  | .fault _ => none
  | .refused _ => none

/-- The events, result and driver state an outcome leaves. -/
def seen (o : Host.Outcome State Fault Refusal) : Option (List Event × Option Result × DrvState) :=
  (after o).map fun s => (s.trace, s.result, s.drvState)

/-- The bytes of plane `p` an outcome leaves. -/
def bytesAfter (p : PlaneId) (o : Host.Outcome State Fault Refusal) : Option (List Byte) :=
  (after o).map fun s => planeBytes s.cfg s.fb p

/-- The outcome is a next state. -/
def goesOn (o : Host.Outcome State Fault Refusal) : Bool :=
  match o with
  | .next _ => true
  | .fault _ => false
  | .refused _ => false

/-- The framebuffer of P2 after its step 6. -/
def fbP2 : Framebuffer := ⟨[(1, 0x10#8), (2, 0x02#8)], [(4, 0x80#8)]⟩

/-! ### WellFormed refuses an ill-formed term for each of its checks -/

theorem test_config_ok : cfgP1.WellFormed ∧ cfgP2.WellFormed ∧ cfgP3.WellFormed := by decide

theorem test_config_width_zero : ¬ (configOf 0 2 .r0 .one 1).WellFormed := by decide

theorem test_config_width_big : ¬ (configOf 2049 2 .r0 .one 1).WellFormed := by decide

theorem test_config_height_zero : ¬ (configOf 8 0 .r0 .one 1).WellFormed := by decide

theorem test_config_height_big : ¬ (configOf 8 65537 .r0 .one 1).WellFormed := by decide

theorem test_config_polls_zero : ¬ (configOf 8 2 .r0 .one 0).WellFormed := by decide

theorem test_config_opcodes_equal :
    ¬ ({ cfgP3 with opc := { defaultOpcodes with ramYRange := 0x44#8 } } : Config).WellFormed := by decide

theorem test_ill_driver_output :
    ¬ Instr.WellFormed cfgP3 (.driverOutputControl 2#16 0#8) ∧
      ¬ Instr.WellFormed cfgP3 (.driverOutputControl 1#16 1#8) ∧
      Instr.WellFormed cfgP3 (.driverOutputControl 1#16 0#8) := by decide

theorem test_ill_data_entry :
    ¬ Instr.WellFormed cfgP3 (.dataEntryMode 0#8) ∧ Instr.WellFormed cfgP3 (.dataEntryMode 3#8) := by decide

theorem test_ill_x_range :
    ¬ Instr.WellFormed cfgP2 (.ramXRange 1#8 0#8) ∧ ¬ Instr.WellFormed cfgP2 (.ramXRange 0#8 2#8) ∧
      Instr.WellFormed cfgP2 (.ramXRange 0#8 1#8) := by decide

theorem test_ill_y_range :
    ¬ Instr.WellFormed cfgP2 (.ramYRange 2#16 1#16) ∧ ¬ Instr.WellFormed cfgP2 (.ramYRange 0#16 3#16) ∧
      Instr.WellFormed cfgP2 (.ramYRange 0#16 2#16) := by decide

theorem test_ill_border_temp :
    ¬ Instr.WellFormed cfgP3 (.borderWaveform 0#8) ∧ ¬ Instr.WellFormed cfgP3 (.tempSensor 0#8) ∧
      Instr.WellFormed cfgP3 (.borderWaveform 5#8) ∧ Instr.WellFormed cfgP3 (.tempSensor 0x80#8) := by decide

theorem test_ill_update_ctrl :
    ¬ Instr.WellFormed cfgP3 (.updateCtrl1 1#8 0x80#8) ∧ ¬ Instr.WellFormed cfgP3 (.updateCtrl1 0#8 0#8) ∧
      ¬ Instr.WellFormed cfgP3 (.updateCtrl2 0#8) ∧ Instr.WellFormed cfgP3 (.updateCtrl2 0xFF#8) := by decide

theorem test_ill_write_ram :
    ¬ Instr.WellFormed cfgP3 (.writeRamBw [0#8]) ∧ ¬ Instr.WellFormed cfgP3 (.writeRamRed [0#8, 0#8]) ∧
      ¬ Instr.WellFormed cfgP2 (.writeRamRed [0#8]) ∧ Instr.WellFormed cfgP3 (.writeRamBw [0#8, 0#8]) := by decide

theorem test_ill_deep_sleep :
    ¬ Instr.WellFormed cfgP3 (.deepSleep 0#8) ∧ Instr.WellFormed cfgP3 (.deepSleep 1#8) := by decide

/-! ### Words written out from the spec's encodings decode to the instructions they stand for -/

/-- V-ENC, `H` = 296: gate lines minus one, low byte first. -/
theorem test_decode_driver_output :
    decodeBytes cfgP1 [0x01, 0x27, 0x01, 0x00] = .ok (.driverOutputControl 0x0127#16 0x00#8) := rfl

/-- V-ENC: `11[03]`. -/
theorem test_decode_data_entry : decodeBytes cfgP1 [0x11, 0x03] = .ok (.dataEntryMode 0x03#8) := rfl

/-- V-WIN, `(8, 10, 23, 19)`: start column, then end column. -/
theorem test_decode_x_range : decodeBytes cfgP1 [0x44, 0x01, 0x02] = .ok (.ramXRange 0x01#8 0x02#8) := rfl

/-- V-WIN, `(0, 255, 0, 256)`: start row, then end row, each low byte first. -/
theorem test_decode_y_range :
    decodeBytes cfgP1 [0x45, 0xFF, 0x00, 0x00, 0x01] = .ok (.ramYRange 0x00FF#16 0x0100#16) := rfl

/-- V-ENC: `3C[05]`. -/
theorem test_decode_border : decodeBytes cfgP1 [0x3C, 0x05] = .ok (.borderWaveform 0x05#8) := rfl

/-- V-ENC: `18[80]`. -/
theorem test_decode_temp_sensor : decodeBytes cfgP1 [0x18, 0x80] = .ok (.tempSensor 0x80#8) := rfl

/-- V-ENC: `21[00 80]`. -/
theorem test_decode_update_ctrl_1 : decodeBytes cfgP1 [0x21, 0x00, 0x80] = .ok (.updateCtrl1 0x00#8 0x80#8) := rfl

/-- V-ENC: `22[F7]`. -/
theorem test_decode_update_ctrl_2 : decodeBytes cfgP1 [0x22, 0xF7] = .ok (.updateCtrl2 0xF7#8) := rfl

/-- V-ENC: `20[]`. -/
theorem test_decode_master_activation : decodeBytes cfgP1 [0x20] = .ok .masterActivation := rfl

/-- V-ENC, `W` = 8, `H` = 2: `24[80 01]`. -/
theorem test_decode_write_bw : decodeBytes cfgP3 [0x24, 0x80, 0x01] = .ok (.writeRamBw [0x80#8, 0x01#8]) := rfl

/-- V-ENC, `W` = 8, `H` = 2: `26[00 40]`. -/
theorem test_decode_write_red : decodeBytes cfgP3 [0x26, 0x00, 0x40] = .ok (.writeRamRed [0x00#8, 0x40#8]) := rfl

/-- V-ENC: `10[01]`. -/
theorem test_decode_deep_sleep : decodeBytes cfgP1 [0x10, 0x01] = .ok (.deepSleep 0x01#8) := rfl

/-- P1 step 1: `req_op` = 0. -/
theorem test_decode_init : decodeRequest ⟨0#3, 0#16, 0#16, 0#2, 0#1⟩ = .ok .init := rfl

/-- P2 step 4: `req_op` = 1, fields 2, 11, 2. -/
theorem test_decode_set_pixel : decodeRequest ⟨1#3, 2#16, 11#16, 2#2, 0#1⟩ = .ok (.setPixel 2#16 11#16 .red) := rfl

/-- P2 step 2: `req_op` = 2, `req_color` = 0; and 30_encoding.md R63's `Black` = 1. -/
theorem test_decode_clear :
    decodeRequest ⟨2#3, 0#16, 0#16, 0#2, 0#1⟩ = .ok (.clear .white) ∧
      decodeRequest ⟨2#3, 0#16, 0#16, 1#2, 0#1⟩ = .ok (.clear .black) := ⟨rfl, rfl⟩

/-- P1 step 4 and P2 step 9: `req_op` = 3, `req_mode` = 0 and 1. -/
theorem test_decode_update :
    decodeRequest ⟨3#3, 0#16, 0#16, 0#2, 0#1⟩ = .ok (.update .fullRefresh) ∧
      decodeRequest ⟨3#3, 0#16, 0#16, 0#2, 1#1⟩ = .ok (.update .partialRefresh) := ⟨rfl, rfl⟩

/-- P2 step 10: `req_op` = 4. -/
theorem test_decode_sleep : decodeRequest ⟨4#3, 0#16, 0#16, 0#2, 0#1⟩ = .ok .sleep := rfl

/-- 30_encoding.md R73: operation codes 5, 6, 7 and colour 3 are reserved. -/
theorem test_decode_reserved :
    decodeRequest ⟨5#3, 0#16, 0#16, 0#2, 0#1⟩ = .error (.reservedRequest 5#3) ∧
      decodeRequest ⟨7#3, 0#16, 0#16, 0#2, 0#1⟩ = .error (.reservedRequest 7#3) ∧
      decodeRequest ⟨1#3, 0#16, 0#16, 3#2, 0#1⟩ = .error .reservedColor := ⟨rfl, rfl, rfl⟩

/-- 30_encoding.md R74: no software reset command; R68: a RAM_X_RANGE has two data bytes. -/
theorem test_decode_refused :
    decodeBytes cfgP1 [0x12] = .error (.unknownOpcode 0x12#8) ∧
      decodeBytes cfgP1 [0x44, 0x00] = .error (.wrongDataLength .ramXRange) ∧
      decodeBytes cfgP1 [] = .error .noOpcode := ⟨rfl, rfl, rfl⟩

/-- V-ENC, `H` = 296: the encoder writes the bytes the vector lists. -/
theorem test_encode_y_range :
    encode cfgP1 (.ramYRange 0#16 295#16) = .cmd ⟨0x45#8, [0x00#8, 0x00#8, 0x27#8, 0x01#8]⟩ := by decide

/-! ### Words numbered as spec/opcode_table.json numbers them -/

theorem test_table_words_requests :
    [0, 1, 2, 3, 4].map (decodeTableWord 3) =
      [some .init, some (.setPixel 0#16 0#16 .white), some (.clear .white), some (.update .fullRefresh),
        some .sleep] := by decide

theorem test_table_words_descriptors :
    [0x01, 0x11, 0x44, 0x45, 0x3C, 0x18, 0x21, 0x22, 0x20, 0x10].map (decodeTableWord 8) =
      [some (.driverOutputControl 0#16 0#8), some (.dataEntryMode 0#8), some (.ramXRange 0#8 0#8),
        some (.ramYRange 0#16 0#16), some (.borderWaveform 0#8), some (.tempSensor 0#8), some (.updateCtrl1 0#8 0#8),
        some (.updateCtrl2 0#8), some .masterActivation, some (.deepSleep 0#8)] := by decide

theorem test_table_words_ram :
    decodeTableWord 8 0x24 = some (.writeRamBw (List.replicate 6 0#8)) ∧
      decodeTableWord 8 0x26 = some (.writeRamRed (List.replicate 6 0#8)) := by decide

/-- Every row of the table runs as the first instruction after reset. -/
theorem test_rows_run_from_reset :
    ([0, 1, 2, 3, 4].all fun w => goesOn (step (State.reset.withFetchWord 3 w))) = true ∧
      ([0x01, 0x11, 0x44, 0x45, 0x3C, 0x18, 0x21, 0x22, 0x20, 0x24, 0x26, 0x10].all fun w =>
        goesOn (step (State.reset.withFetchWord 8 w))) = true := by decide

/-! ### Operations -/

theorem test_reset_memory_canonical : State.reset.fb.bw.wf ∧ State.reset.fb.red.wf := by decide

/-- V-LOC. -/
theorem test_locate :
    locate cfgP1 7 0 = (0, 0x01#8) ∧ locate cfgP1 8 0 = (1, 0x80#8) ∧ locate cfgP1 69 100 = (1608, 0x04#8) ∧
      locate cfgP2 11 2 = (5, 0x10#8) := by decide

/-- V-ROT, panel 12 by 5, logical (3, 2) under the four rotations. -/
theorem test_rotate :
    [Rotation.r0, .r90, .r180, .r270].map (fun r => rotate (configOf 12 5 r .one 1) 3 2) =
      [(3, 2), (9, 3), (8, 2), (2, 1)] := by decide

/-- V-WIN. -/
theorem test_set_ram_window :
    (setRamWindow cfgP1 8 10 23 19).toOption =
        some [⟨0x44#8, [0x01#8, 0x02#8]⟩, ⟨0x45#8, [0x0A#8, 0x00#8, 0x13#8, 0x00#8]⟩] ∧
      setRamWindow cfgP1 0 0 128 295 = .error .invalidRegion ∧
      setRamWindow cfgP1 5 0 4 0 = .error .invalidRegion := ⟨by decide, rfl, rfl⟩

/-- V-WAIT, `MAX_POLLS` = 3, answers t, t, f: returns with `POLL_N` = 2. -/
theorem test_wait_returns :
    (match pollLoop 3 (startPollCount (scripted cfgP2 .ready [true, true, false] [])) with
      | .go s => some (s.trace, s.pollN)
      | .stop _ _ => none) =
      some ([.busy true, .delay .poll, .busy true, .delay .poll, .busy false], some 2) := by decide

/-- V-WAIT, `MAX_POLLS` = 3, answers t, t, t: `Timeout` with `POLL_N` = 3, and no fourth sample. -/
theorem test_wait_times_out :
    (match pollLoop 3 (startPollCount (scripted cfgP2 .ready [true, true, true, false] [])) with
      | .go _ => none
      | .stop k s => some (k, s.trace, s.pollN)) =
      some (.timeout, [.busy true, .delay .poll, .busy true, .delay .poll, .busy true], some 3) := by decide

/-- P2's end state: three pixels are drawn, and another is white. -/
theorem test_get_pixel :
    getPixel cfgP2 fbP2 0 0 = some .black ∧ getPixel cfgP2 fbP2 1 5 = some .black ∧
      getPixel cfgP2 fbP2 2 11 = some .red ∧ getPixel cfgP2 fbP2 2 0 = some .white := by decide

/-- 41_framebuffer.md R128 (P2's logical extent is 3 by 12): no answer one past either end. -/
theorem test_get_pixel_outside : getPixel cfgP2 fbP2 3 0 = none ∧ getPixel cfgP2 fbP2 0 12 = none := by decide

/-- 30_encoding.md R73: plane 1 of a one-plane block is no plane for `write_ram` or `as_bytes`; V-ENC's `24[80 01]` is a
whole plane of 8 by 2. -/
theorem test_plane_access :
    asBytes cfgP3 fbP2 .red = .error (.planeNotAllocated .red) ∧
      writeRam cfgP3 .red [0x00, 0x40] = .error (.planeNotAllocated .red) ∧
      writeRam cfgP3 .bw [0x80, 0x01] = .ok ⟨0x24#8, [0x80#8, 0x01#8]⟩ ∧
      writeRam cfgP3 .bw [0x80] = .error (.wrongPlaneLength .bw) := ⟨rfl, rfl, rfl, rfl⟩

/-- The spec's numeric codes: 10_state.md R12, 30_encoding.md R65, R66. -/
theorem test_codes :
    drvStateCode .sleeping = 3#2 ∧ rotationCode .r180 = 2#2 ∧ planeCode .red = 1#1 ∧
      resultCode (.err .unsupportedColor) = 6#3 ∧ resultCode (.err .timeout) = 2#3 := by decide

/-! ### One step of each instruction -/

/-- P1's first descriptor, as in V-SEND's first row. -/
theorem test_driver_output_control :
    seen (exec (.driverOutputControl 295#16 0#8) (scripted cfgP1 .ready [] (oks 2))) =
      some (sent 0x01 [0x27, 0x01, 0x00], none, .ready) := by decide

/-- P1: `11[03]`. -/
theorem test_data_entry_mode :
    seen (exec (.dataEntryMode 3#8) (scripted cfgP1 .ready [] (oks 2))) = some (sent 0x11 [0x03], none, .ready) := by
  decide

/-- V-SEND, `CMD(44)` with answers ok, err. -/
theorem test_ram_x_range_data_fails :
    seen (exec (.ramXRange 0x00#8 0x0F#8) (scripted cfgP1 .ready [] [.ok, .err])) =
      some ([.mode .command, .write [0x44] .ok, .mode .data, .write [0x00, 0x0F] .err], some (.err .busFailure),
        .ready) := by decide

/-- V-SEND, `CMD(44)` with answer err: no `MODE(D)`, and `DC_OUT` stays `Command`. -/
theorem test_ram_x_range_opcode_fails :
    (after (exec (.ramXRange 0x00#8 0x0F#8) (scripted cfgP1 .ready [] [.err]))).map (fun s => (s.trace, s.dcOut)) =
      some ([.mode .command, .write [0x44] .err], .command) := by decide

/-- P1: `45[00 00 27 01]`, and `DC_OUT` = `Data` after it. -/
theorem test_ram_y_range :
    (after (exec (.ramYRange 0#16 295#16) (scripted cfgP1 .ready [] (oks 2)))).map (fun s => (s.trace, s.dcOut)) =
      some (sent 0x45 [0x00, 0x00, 0x27, 0x01], .data) := by decide

/-- P1: `3C[05]`. -/
theorem test_border_waveform :
    seen (exec (.borderWaveform 5#8) (scripted cfgP1 .ready [] (oks 2))) = some (sent 0x3C [0x05], none, .ready) := by
  decide

/-- P1: `18[80]`. -/
theorem test_temp_sensor :
    seen (exec (.tempSensor 0x80#8) (scripted cfgP1 .ready [] (oks 2))) = some (sent 0x18 [0x80], none, .ready) := by
  decide

/-- P1: `21[00 80]`. -/
theorem test_update_ctrl_1 :
    seen (exec (.updateCtrl1 0#8 0x80#8) (scripted cfgP1 .ready [] (oks 2))) =
      some (sent 0x21 [0x00, 0x80], none, .ready) := by decide

/-- P2 step 9: `22[FF]`. -/
theorem test_update_ctrl_2 :
    seen (exec (.updateCtrl2 0xFF#8) (scripted cfgP2 .ready [] (oks 2))) = some (sent 0x22 [0xFF], none, .ready) := by
  decide

/-- V-SEND, `CMD(20)` with no data: two events, and `DRV_STATE` is not its to write. -/
theorem test_master_activation :
    seen (exec .masterActivation (scripted cfgP2 .ready [] (oks 1))) =
      some ([.mode .command, .write [0x20] .ok], none, .ready) := by decide

/-- V-ENC: `24[80 01]`. -/
theorem test_write_ram_bw :
    seen (exec (.writeRamBw [0x80#8, 0x01#8]) (scripted cfgP3 .ready [] (oks 2))) =
      some (sent 0x24 [0x80, 0x01], none, .ready) := by decide

/-- P2 step 9: `26[00 00 00 00 80 00]`. -/
theorem test_write_ram_red :
    seen (exec (.writeRamRed [0#8, 0#8, 0#8, 0#8, 0x80#8, 0#8]) (scripted cfgP2 .ready [] (oks 2))) =
      some (sent 0x26 [0x00, 0x00, 0x00, 0x00, 0x80, 0x00], none, .ready) := by decide

/-- P3 step 11: `10[01]`. -/
theorem test_deep_sleep :
    seen (exec (.deepSleep 1#8) (scripted cfgP3 .ready [] (oks 2))) = some (sent 0x10 [0x01], none, .ready) := by
  decide

/-- P3 step 4. -/
theorem test_init :
    seen (exec .init (scripted cfgP3 .uninitialized [false] (oks 14))) =
      some (rp ++ [.busy false] ++ i8, some .ok, .ready) := by decide

/-- P4 step 6: the 4th transfer fails, `DRV_STATE` stays `Ready`. -/
theorem test_init_bus_failure :
    seen (exec .init (scripted cfgP3 .ready [false] (oks 3 ++ [.err] ++ oks 10))) =
      some (rp ++ [.busy false] ++ sent 0x01 [0x01, 0x00, 0x00] ++
        [.mode .command, .write [0x11] .ok, .mode .data, .write [0x03] .err], some (.err .busFailure), .ready) := by
  decide

/-- P2 steps 4 and 5 on one state: plane 1 gets the bit, plane 0 loses it. -/
theorem test_set_pixel :
    bytesAfter .red (exec (.setPixel 2#16 11#16 .red) (State.initial cfgP2)) =
        some [0x00, 0x00, 0x00, 0x00, 0x80, 0x00] ∧
      bytesAfter .bw (exec (.setPixel 1#16 5#16 .red) { State.initial cfgP2 with fb := fbP2 }) =
        some [0x00, 0x10, 0x00, 0x00, 0x00, 0x00] := by decide

/-- V-PIX, one plane: the colour is checked before the bounds. -/
theorem test_set_pixel_checks :
    seen (exec (.setPixel 9999#16 9999#16 .red) (State.initial cfgP3)) =
        some ([], some (.err .unsupportedColor), .uninitialized) ∧
      seen (exec (.setPixel 8#16 0#16 .black) (State.initial cfgP3)) =
        some ([], some (.err .outOfBounds), .uninitialized) := by decide

/-- V-CLR, 12 by 3, two planes: `CLEAR Black` over a drawn framebuffer. -/
theorem test_clear :
    bytesAfter .bw (exec (.clear .black) { State.initial cfgP2 with fb := fbP2 }) =
        some [0xFF, 0xF0, 0xFF, 0xF0, 0xFF, 0xF0] ∧
      bytesAfter .red (exec (.clear .black) { State.initial cfgP2 with fb := fbP2 }) =
        some [0x00, 0x00, 0x00, 0x00, 0x00, 0x00] := by decide

/-- V-CLR, one plane: `CLEAR Red` is refused by its check; 5 by 3 has `F8` in every row. -/
theorem test_clear_edges :
    seen (exec (.clear .red) (State.initial cfgP3)) = some ([], some (.err .unsupportedColor), .uninitialized) ∧
      bytesAfter .bw (exec (.clear .black) (State.initial (configOf 5 3 .r0 .one 1))) = some [0xF8, 0xF8, 0xF8] := by
  decide

/-- P2 step 9, all 25 events. -/
theorem test_update :
    seen (exec (.update .partialRefresh) { scripted cfgP2 .ready [true, false] (oks 11) with fb := fbP2 }) =
      some (sent 0x44 [0x00, 0x01] ++ sent 0x45 [0x00, 0x00, 0x02, 0x00] ++
          sent 0x24 [0x00, 0x10, 0x02, 0x00, 0x00, 0x00] ++ sent 0x26 [0x00, 0x00, 0x00, 0x00, 0x80, 0x00] ++
          sent 0x22 [0xFF] ++
          [.mode .command, .write [0x20] .ok, .busy true, .delay .poll, .busy false], some .ok, .ready) := by decide

/-- P3 step 6: a stuck busy line leaves `Updating`. -/
theorem test_update_timeout :
    seen (exec (.update .fullRefresh) { scripted cfgP3 .ready [true, true] (oks 9) with fb := ⟨[(0, 0x80#8)], []⟩ }) =
      some (sent 0x44 [0x00, 0x00] ++ sent 0x45 [0x00, 0x00, 0x01, 0x00] ++ sent 0x24 [0x80, 0x00] ++
          sent 0x22 [0xF7] ++ [.mode .command, .write [0x20] .ok, .busy true, .delay .poll, .busy true],
        some (.err .timeout), .updating) := by decide

/-- P3 step 11. -/
theorem test_sleep :
    seen (exec .sleep (scripted cfgP3 .ready [] (oks 2))) = some (sent 0x10 [0x01], some .ok, .sleeping) := by decide

/-- P4 step 5 and P3 step 7. -/
theorem test_sleep_refused :
    seen (exec .sleep (scripted cfgP3 .ready [] [.err])) =
        some ([.mode .command, .write [0x10] .err], some (.err .busFailure), .ready) ∧
      seen (exec .sleep (scripted cfgP3 .updating [] (oks 2))) =
        some ([], some (.err .invalidState), .updating) := by decide

/-! ### Single steps of the sequencer -/

/-- 10_state.md R10: a request from the host is taken only when idle, and its fields stand in the operand registers. -/
theorem test_step_request :
    (after (step { State.initial cfgP2 with requests := [⟨1#3, 0#16, 0#16, 1#2, 0#1⟩] })).map
        (fun s => (s.req.op, s.requests, s.fb.read .bw 1, s.result)) =
      some (1#3, [], 0x10#8, some .ok) := by decide

/-- 42_display_driver.md R146: a busy sample that is not the last is followed by `Delay(T_POLL)` and another. -/
theorem test_step_poll :
    (after (step { scripted cfgP3 .ready [true] [] with seq := .running [.prim .poll], pollN := some 0 })).map
        (fun s => (s.trace, s.seq, s.pollN)) =
      some ([.busy true], .running [.prim (.delay .poll), .prim .poll], some 1) := by decide

/-- The same with one sample left: `Timeout`, and the sequencer is idle. -/
theorem test_step_poll_last :
    (after (step { scripted cfgP3 .ready [true] [] with seq := .running [.prim .poll], pollN := some 1 })).map
        (fun s => (s.trace, s.seq, s.result)) =
      some ([.busy true], .idle, some (.err .timeout)) := by decide

/-! ### A witness for the hypotheses of every statement that has some -/

/-- A state inside a wait of P2's last UPDATE: the framebuffer drawn, the poll counter running. -/
def waiting : State :=
  { scripted cfgP2 .updating [false] [] with fb := fbP2, seq := .running [.prim .poll], pollN := some 1 }

/-- A block of P2 ready for an UPDATE whose answers are all good, drawn on. -/
def readyP2 : State :=
  { scripted cfgP2 .ready [true, false] (oks 14) with fb := fbP2 }

/-- A block of P3, ready, with one busy sample to come and every answer good. -/
def readyP3 : State :=
  scripted cfgP3 .ready [true, false] (oks 14)

/-- A block of P3, ready, whose busy line never drops. -/
def stuckP3 : State :=
  scripted cfgP3 .ready [true, true, false] (oks 14)

/-- A block of P3, ready, whose transfer number `n` is the first to fail. -/
def failing (n : Nat) : State :=
  scripted cfgP3 .ready [false] (oks n ++ [.err])

theorem witness_ConstructionSetsEveryField :
    cfgP2.WellFormed ∧ ¬ (configOf 0 3 .r0 .one 1).WellFormed := by decide

theorem witness_ConstructionMeetsInvariant : (configOf 2048 65536 .r270 .two 1).WellFormed := by decide

theorem fbP2_inv : FramebufferInv cfgP2 fbP2 where
  canonical p := by cases p <;> decide
  inside p i h := by
    have h6 : 6 ≤ i := h
    have h1 : ¬ (1 = i) := by omega
    have h2 : ¬ (2 = i) := by omega
    have h4 : ¬ (4 = i) := by omega
    cases p <;> simp [Framebuffer.read, Framebuffer.plane, fbP2, Memory.read, h1, h2, h4]
  allocated p i h := by cases p <;> exact absurd h (by decide)
  padding p := by cases p <;> unfold PaddingClear <;> decide
  noBoth i j := by
    rintro ⟨hb, hr⟩
    have h4 : i = 4 := by
      by_contra hne
      have hne' : ¬ (4 = i) := fun h => hne h.symm
      simp [Framebuffer.read, Framebuffer.plane, fbP2, Memory.read, hne', unlistedByte] at hr
    subst h4
    simp [Framebuffer.read, Framebuffer.plane, fbP2, Memory.read, unlistedByte] at hb

theorem witness_EveryStepKeepsInvariant :
    waiting.Inv ∧ ∃ t, step waiting = .next t ∧ t.seq = .running [] ∧ t.pollN = none :=
  ⟨⟨by decide, fbP2_inv, fun h => by cases h⟩, _, rfl, rfl, rfl⟩

theorem witness_DecodeEncodeRoundTrip :
    cfgP2.WellFormed ∧
      ∀ bytes, Instr.writeRamRed [1, 2, 3, 4, 5, 6] = .writeRamBw bytes ∨
        Instr.writeRamRed [1, 2, 3, 4, 5, 6] = .writeRamRed bytes → bytes.length = planeLen cfgP2 := by
  refine ⟨by decide, ?_⟩
  rintro bytes (h | h)
  · cases h
  · cases h; rfl

theorem witness_DescriptorsHaveOneMeaning :
    decodeDescriptor cfgP3 ⟨0x45#8, [0x01#8, 0x00#8, 0x02#8, 0xFF#8]⟩ = .ok (.ramYRange 0x0001#16 0xFF02#16) := rfl

theorem witness_ReservedRequestsRefused :
    (∃ e, decodeRequest ⟨5#3, 0#16, 0#16, 0#2, 0#1⟩ = .error e) ∧
      (∃ e, decodeRequest ⟨2#3, 0#16, 0#16, 3#2, 0#1⟩ = .error e) ∧
      ∃ i, decodeRequest ⟨4#3, 0#16, 0#16, 3#2, 0#1⟩ = .ok i :=
  ⟨⟨_, rfl⟩, ⟨_, rfl⟩, ⟨_, rfl⟩⟩

theorem witness_DescriptorsAcceptedExactly :
    cfgP3.WellFormed ∧ (∃ i, decodeDescriptor cfgP3 ⟨0x24#8, [0#8, 0#8]⟩ = .ok i) ∧
      ∃ e, decodeDescriptor cfgP3 ⟨0x24#8, [0#8]⟩ = .error e :=
  ⟨by decide, ⟨_, rfl⟩, ⟨_, rfl⟩⟩

/-- Both clauses: a legal request and a reserved one. -/
theorem witness_StepRunsNextRequest :
    (∃ s : State, s.cfg.WellFormed ∧ s.seq = .idle ∧ s.requests = [⟨4#3, 0#16, 0#16, 0#2, 0#1⟩] ∧
      decodeRequest ⟨4#3, 0#16, 0#16, 0#2, 0#1⟩ = .ok .sleep) ∧
    ∃ s : State, s.cfg.WellFormed ∧ s.seq = .idle ∧ s.requests = [⟨6#3, 0#16, 0#16, 0#2, 0#1⟩] ∧
      decodeRequest ⟨6#3, 0#16, 0#16, 0#2, 0#1⟩ = .error (.reservedRequest 6#3) :=
  ⟨⟨{ readyP3 with requests := [⟨4#3, 0#16, 0#16, 0#2, 0#1⟩] }, by decide, rfl, rfl, rfl⟩,
    ⟨{ readyP3 with requests := [⟨6#3, 0#16, 0#16, 0#2, 0#1⟩] }, by decide, rfl, rfl, rfl⟩⟩

/-- All four clauses, the red plane among them. -/
theorem witness_StepRunsNextTask :
    cfgP2.WellFormed ∧ decodeDescriptor cfgP2 ⟨0x20#8, []⟩ = .ok .masterActivation ∧
      ∀ tasks : List Task, ({ readyP2 with seq := .running tasks } : State).seq = .running tasks :=
  ⟨by decide, rfl, fun _ => rfl⟩

theorem witness_IdleBlockChangesNothing :
    readyP2.cfg.WellFormed ∧ readyP2.seq = .idle ∧ readyP2.requests = [] := by decide

theorem witness_IllFormedConfigurationRefused : ¬ (State.initial (configOf 8 2 .r0 .one 0)).cfg.WellFormed := by decide

/-- A pixel at the far corner of a width that is no multiple of 8, and the panel of the two ends. -/
theorem witness_LocateFollowsLayout :
    11 < cfgP2.width ∧ 2 < cfgP2.height ∧ cfgP1.width = 128 ∧ cfgP1.height = 296 := by decide

/-- The logical corner of the rotated panel, and the physical corner. -/
theorem witness_RotationIsBijection :
    2 < logicalWidth cfgP2 ∧ 11 < logicalHeight cfgP2 ∧ 11 < cfgP2.width ∧ 2 < cfgP2.height := by decide

theorem witness_PixelsDoNotShareBits :
    11 < cfgP2.width ∧ 2 < cfgP2.height ∧ locate cfgP2 11 2 = locate cfgP2 11 2 := by decide

/-- The logical corner, in the colour of the second plane, over a drawn framebuffer. -/
theorem witness_SetPixelWritesOneBit :
    (∀ p, (readyP2.fb.plane p).wf) ∧ ¬ (Color.red = .red ∧ readyP2.cfg.planes = .one) ∧
      (2#16 : Half).toNat < logicalWidth readyP2.cfg ∧ (11#16 : Half).toNat < logicalHeight readyP2.cfg :=
  ⟨fun p => by cases p <;> decide, by decide, by decide, by decide⟩

theorem witness_SetPixelReadsBack :
    (∀ p, (readyP2.fb.plane p).wf) ∧
      (∃ t, exec (.setPixel 2#16 11#16 .red) readyP2 = .next t ∧ t.result = some .ok) ∧
      1 < logicalWidth readyP2.cfg ∧ 5 < logicalHeight readyP2.cfg ∧
      (1, 5) ≠ ((2#16 : Half).toNat, (11#16 : Half).toNat) :=
  ⟨fun p => by cases p <;> decide, ⟨_, rfl, rfl⟩, by decide, by decide, by decide⟩

/-- P2 steps 7 and 8: one past the logical width, one past the logical height. -/
theorem witness_SetPixelOutOfBounds :
    ¬ (Color.black = .red ∧ readyP2.cfg.planes = .one) ∧ logicalWidth readyP2.cfg ≤ (3#16 : Half).toNat ∧
      logicalHeight readyP2.cfg ≤ (12#16 : Half).toNat := by decide

theorem witness_RedNeedsSecondPlane : readyP3.cfg.planes = .one := by decide

/-- The last byte of the last row, and the first byte past the plane. -/
theorem witness_ClearFillsPlanes :
    (∀ p, (readyP2.fb.plane p).wf) ∧ ¬ (Color.red = .red ∧ readyP2.cfg.planes = .one) ∧
      planeAllocated readyP2.cfg .red = true ∧ 2 < readyP2.cfg.height ∧ 1 < bpr readyP2.cfg ∧
      planeLen readyP2.cfg ≤ 6 ∧ planeAllocated readyP3.cfg .red = false :=
  ⟨fun p => by cases p <;> decide, by decide, by decide, by decide, by decide, by decide, by decide⟩

theorem witness_ClearReadsBackEverywhere :
    (∀ p, (readyP2.fb.plane p).wf) ∧ (∃ t, exec (.clear .red) readyP2 = .next t ∧ t.result = some .ok) ∧
      2 < logicalWidth readyP2.cfg ∧ 11 < logicalHeight readyP2.cfg :=
  ⟨fun p => by cases p <;> decide, ⟨_, rfl, rfl⟩, by decide, by decide⟩

/-- One busy sample, the last the bound allows before the one that is not busy. -/
theorem witness_InitBringsReady : IdleAfter readyP3 1 ∧ BusOk readyP3 14 := by
  unfold IdleAfter BusOk
  decide

/-- One plane and two planes. -/
theorem witness_UpdateSendsEverythingAndWaits :
    (readyP3.cfg.WellFormed ∧ readyP3.drvState = .ready ∧ IdleAfter readyP3 1 ∧
      BusOk readyP3 (updateTransfers readyP3.cfg readyP3.fb .fullRefresh).length) ∧
    readyP2.cfg.WellFormed ∧ readyP2.drvState = .ready ∧ IdleAfter readyP2 1 ∧
      BusOk readyP2 (updateTransfers readyP2.cfg readyP2.fb .partialRefresh).length := by
  unfold IdleAfter BusOk
  decide

theorem witness_SleepSendsDeepSleep : readyP3.drvState = .ready ∧ BusOk readyP3 2 := by
  unfold BusOk
  decide

/-- A state that is not `Ready`, and each of the three requests that never raise the error. -/
theorem witness_InvalidStateBeforeAnyEvent :
    (scripted cfgP3 .updating [] []).drvState ≠ .ready ∧ (∃ t, exec .init readyP3 = .next t) ∧
      (∃ t, exec (.setPixel 0#16 0#16 .white) (scripted cfgP3 .sleeping [] []) = .next t) ∧
      ∃ t, exec (.clear .white) (scripted cfgP3 .sleeping [] []) = .next t :=
  ⟨by decide, ⟨_, rfl⟩, ⟨_, rfl⟩, ⟨_, rfl⟩⟩

/-- INIT, UPDATE, and an INIT that recovers after P3's step 6. -/
theorem witness_TimeoutWithinBound :
    StuckBusy stuckP3 ∧ stuckP3.cfg.WellFormed ∧ stuckP3.drvState = .ready ∧
      BusOk stuckP3 (updateTransfers stuckP3.cfg stuckP3.fb .fullRefresh).length ∧
      (∃ t u, exec .init stuckP3 = .next t ∧ t.result = some (.err .timeout) ∧ IdleAfter t 0 ∧ BusOk t 14 ∧
        exec .init t = .next u) := by
  refine ⟨by unfold StuckBusy; decide, by decide, by decide, by unfold BusOk; decide, _, _, rfl, by decide, ?_, ?_, rfl⟩
  · unfold IdleAfter; decide
  · unfold BusOk; decide

/-- The last transfer of each request. -/
theorem witness_BusFailureEndsTheRequest :
    (IdleAfter (failing 13) 0 ∧ BusFailsAt (failing 13) 13) ∧
    ((failing 8).cfg.WellFormed ∧ (failing 8).drvState = .ready ∧
      8 < (updateTransfers (failing 8).cfg (failing 8).fb .fullRefresh).length ∧ BusFailsAt (failing 8) 8) ∧
    (failing 1).drvState = .ready ∧ BusFailsAt (failing 1) 1 := by
  unfold IdleAfter BusFailsAt
  decide

/-- A failing request of each kind, and one that does not fail. -/
theorem witness_ErrAnswerEndsTheRequest :
    (∃ t, exec .init (failing 3) = .next t ∧ t.result = some (.err .busFailure)) ∧
      (∃ t, exec (.update .fullRefresh) (failing 5) = .next t ∧ t.result = some (.err .busFailure)) ∧
      (∃ t, exec .sleep (failing 0) = .next t ∧ t.result = some (.err .busFailure) ∧
        t.trace = [.mode .command] ++ .write [0x10#8] .err :: []) ∧
      ∃ t, exec .sleep readyP3 = .next t ∧ t.result = some .ok :=
  ⟨⟨_, rfl, by decide⟩, ⟨_, rfl, by decide⟩, ⟨_, rfl, by decide, by decide⟩, ⟨_, rfl, by decide⟩⟩

/-- P3 steps 11 to 16. -/
theorem witness_AfterSleepOnlyInit :
    ∃ t, exec .sleep { readyP3 with busAnswers := oks 16 } = .next t ∧ t.result = some .ok ∧ IdleAfter t 1 ∧
      BusOk t 14 := by
  refine ⟨_, rfl, by decide, ?_, ?_⟩
  · unfold IdleAfter; decide
  · unfold BusOk; decide

/-- A drawn Red on two planes, where the pixel's byte of plane 1 changes, and a drawn Black on one. -/
theorem witness_UpdateTransfersWhatWasDrawn :
    ((∀ p, (readyP2.fb.plane p).wf) ∧ readyP2.cfg.WellFormed ∧ readyP2.cfg.planes = .two ∧
      ∃ t u, exec (.setPixel 2#16 0#16 .red) readyP2 = .next t ∧ t.result = some .ok ∧
        exec (.update .partialRefresh) t = .next u ∧ u.result = some .ok) ∧
    (∀ p, (readyP3.fb.plane p).wf) ∧ readyP3.cfg.WellFormed ∧ readyP3.cfg.planes = .one ∧
      ∃ t u, exec (.setPixel 7#16 1#16 .black) readyP3 = .next t ∧ t.result = some .ok ∧
        exec (.update .fullRefresh) t = .next u ∧ u.result = some .ok :=
  ⟨⟨fun p => by cases p <;> decide, by decide, rfl, _, _, rfl, rfl, rfl, by decide⟩,
    fun p => by cases p <;> decide, by decide, rfl, _, _, rfl, rfl, rfl, by decide⟩

theorem witness_FullAndPartialDifferInOneByte :
    ∃ t u, exec (.update .fullRefresh) readyP3 = .next t ∧ exec (.update .partialRefresh) readyP3 = .next u ∧
      t.trace[15]? = some (.write [0xF7#8] .ok) ∧ u.trace[15]? = some (.write [0xFF#8] .ok) := by
  refine ⟨_, _, rfl, rfl, ?_, ?_⟩ <;> decide

theorem witness_EveryRequestEndsWithAResult : readyP3.cfg.WellFormed ∧ isRequest (.update .fullRefresh) = true := by
  decide

/-- An INIT, a refused UPDATE, a failed SLEEP and a descriptor. -/
theorem witness_DriverStateTable :
    cfgP3.WellFormed ∧ (∃ t, exec .init readyP3 = .next t) ∧
      (∃ t, exec (.update .fullRefresh) (scripted cfgP3 .sleeping [] []) = .next t) ∧
      (∃ t, exec .sleep (failing 0) = .next t) ∧ ∃ t, exec .masterActivation readyP3 = .next t :=
  ⟨by decide, ⟨_, rfl⟩, ⟨_, rfl⟩, ⟨_, rfl⟩, ⟨_, rfl⟩⟩

/-- Entering `Updating` (P3 step 6) and leaving it (P3 step 10). -/
theorem witness_UpdatingOnlyAfterTimeout :
    (∃ t, exec (.update .fullRefresh) stuckP3 = .next t ∧ stuckP3.drvState ≠ .updating ∧ t.drvState = .updating) ∧
      ∃ t, exec .init { readyP3 with drvState := .updating } = .next t ∧ t.drvState ≠ .updating :=
  ⟨⟨_, rfl, by decide, by decide⟩, ⟨_, rfl, by decide⟩⟩

theorem witness_FramebufferAndBusAreSeparate :
    (∃ t, exec (.update .fullRefresh) readyP3 = .next t) ∧ (∃ t, exec (.clear .black) readyP3 = .next t) ∧
      ∃ t, exec (.setPixel 7#16 1#16 .black) readyP3 = .next t :=
  ⟨⟨_, rfl⟩, ⟨_, rfl⟩, ⟨_, rfl⟩⟩

theorem witness_ConfigurationNeverChanges :
    (∃ t, exec .init readyP3 = .next t) ∧ ∃ t, step waiting = .next t :=
  ⟨⟨_, rfl⟩, ⟨_, rfl⟩⟩

theorem witness_TraceIsWellFramed :
    (∃ t, exec .init readyP3 = .next t) ∧ ∃ t, exec (.update .partialRefresh) readyP2 = .next t :=
  ⟨⟨_, rfl⟩, ⟨_, rfl⟩⟩

/-- The bound is reached: INIT that waits as long as it may and then sends everything. -/
theorem witness_EventsAreBounded :
    1 ≤ readyP3.cfg.maxPolls ∧ isRequest .init = true ∧
      ∃ t, exec .init readyP3 = .next t ∧ t.trace.length = 4 + (2 * 2 - 1) + 28 :=
  ⟨by decide, rfl, _, rfl, by decide⟩

theorem witness_DelaysAreBounded :
    isRequest .init = true ∧ ∃ t, exec .init readyP3 = .next t ∧ totalDelay readyP3.cfg t.trace = 10 + 10 + 1 :=
  ⟨rfl, _, rfl, by decide⟩

theorem witness_ErrorsAreNotSticky :
    isRequest .sleep = true ∧ ∃ t, exec .sleep readyP3 = .next t ∧ t.result = some .ok :=
  ⟨rfl, _, rfl, by decide⟩

theorem witness_SequencerRunsWholeRequests : readyP2.cfg.WellFormed ∧ readyP3.cfg.WellFormed := by decide

/-- A whole plane on a block with two. -/
theorem witness_EncoderBuildsTheTables :
    (List.replicate 6 0xFF#8).length = planeLen cfgP2 ∧ cfgP2.planes = .two := by decide

/-- A rectangle that touches the far corner, and one for each way to be outside. -/
theorem witness_RamWindowChecksItsRectangle :
    (127 ≤ 127 ∧ 295 ≤ 295 ∧ 127 < cfgP1.width ∧ 295 < cfgP1.height) ∧ 4 < 5 ∧ cfgP1.width ≤ 128 ∧
      cfgP1.height ≤ 296 := by decide

theorem witness_BootDescriptorsSend : BusOk readyP3 2 := by
  unfold BusOk
  decide

theorem witness_TriggerAndSleepDescriptorsSend : BusOk readyP3 2 ∧ BusOk readyP3 1 := by
  unfold BusOk
  decide

/-- A whole plane on one and on two planes, and a plane one byte short. -/
theorem witness_RamWritesSendOnePlane :
    ([0x80#8, 0x01#8].length = planeLen readyP3.cfg ∧ BusOk readyP3 2 ∧ readyP3.cfg.planes = .one) ∧
      ((List.replicate 6 0xFF#8).length = planeLen readyP2.cfg ∧ BusOk readyP2 2 ∧ readyP2.cfg.planes = .two) ∧
      (List.replicate 5 0xFF#8).length ≠ planeLen readyP2.cfg := by
  unfold BusOk
  decide

/-- The data transfer of a descriptor fails, and the only transfer of MASTER_ACTIVATION. -/
theorem witness_DescriptorFailsAtItsTransfer :
    (encode cfgP3 (.ramXRange 0#8 0#8) = .cmd ⟨0x44#8, [0#8, 0#8]⟩ ∧
      1 < (transfersOf 0x44#8 [0#8, 0#8]).length ∧ BusFailsAt (failing 1) 1) ∧
    encode cfgP3 .masterActivation = .cmd ⟨0x20#8, []⟩ ∧ 0 < (transfersOf 0x20#8 []).length ∧
      BusFailsAt (failing 0) 0 := by
  unfold BusFailsAt
  decide

/-- The same with a whole plane: both premises on RAM writes are met. -/
theorem witness_DescriptorFailsAtItsTransfer_ram :
    encode cfgP3 (.writeRamBw [1#8, 2#8]) = .cmd ⟨0x24#8, [1#8, 2#8]⟩ ∧
      (∀ bytes, Instr.writeRamBw [1#8, 2#8] = .writeRamBw bytes → bytes.length = planeLen cfgP3) ∧
      ∀ bytes, Instr.writeRamBw [1#8, 2#8] = .writeRamRed bytes →
        cfgP3.planes = .two ∧ bytes.length = planeLen cfgP3 :=
  ⟨rfl, fun _ h => by cases h; rfl, fun _ h => by cases h⟩

/-- The red plane where it exists and where it does not, a whole plane and one byte less. -/
theorem witness_PlaneAccessNeedsAllocatedPlane :
    cfgP2.planes = .two ∧ 5 < planeLen cfgP2 ∧ cfgP3.planes = .one ∧
      (List.replicate 5 0xFF#8).length ≠ planeLen cfgP2 := by decide

/-- The far corner of the logical extent, and one past it in each direction. -/
theorem witness_GetPixelReadsTheStoredPair :
    2 < logicalWidth cfgP2 ∧ 11 < logicalHeight cfgP2 ∧ logicalWidth cfgP2 ≤ 3 ∧ logicalHeight cfgP2 ≤ 12 ∧
      cfgP2.planes = .two ∧ cfgP3.planes = .one := by decide

/-- A descriptor sent in the middle of a request, and a single primitive, behind the events before them. -/
theorem witness_EveryStepKeepsTraceFramed :
    ({ readyP3 with trace := i8, seq := .running [.send ⟨0x20#8, []⟩] } : State).TraceInv ∧
      (∃ t, step { readyP3 with trace := i8, seq := .running [.send ⟨0x20#8, []⟩] } = .next t ∧
        t.trace.length = i8.length + 2) ∧
      ∃ t, step { readyP3 with trace := i8, seq := .running [.prim .rstAssert] } = .next t :=
  ⟨⟨by decide, by decide⟩, ⟨_, rfl, by decide⟩, ⟨_, rfl⟩⟩

end Sys2Proof.Tests
end

section
/-! PROOFS. The trace of a constructed block (spec/00_scope.md R4). -/

namespace Sys2Proof.Machine

@[simp] theorem State.initial_trace (c : Config) : (State.initial c).trace = [] := rfl

/-- Before its first event a block meets the trace invariant, whatever its other fields hold. -/
theorem State.traceInv_of_trace_eq_nil {s : State} (h : s.trace = []) : s.TraceInv where
  framed := by simp [h, wellFramed]
  opcodes := by simp [h, commandTransfers]

theorem State.traceInv_initial (c : Config) : (State.initial c).TraceInv :=
  State.traceInv_of_trace_eq_nil (State.initial_trace c)

/-- Settles O53: construction leaves the trace empty, and `State.reset` is a construction. -/
theorem constructionTraceFramed : Obligations.ConstructionTraceFramed :=
  ⟨State.traceInv_initial resetConfig, State.traceInv_initial⟩

end Sys2Proof.Machine
end

section
/-! PROOFS. What `exec` and `step` leave unchanged, the invariant of the block (spec/10_state.md R11, R15, R20,
41_framebuffer.md R128), and what one step finds to do (10_state.md R10, R19). -/

namespace Sys2Proof.Machine

/-! ### Bus work leaves the configuration, the framebuffer and the host's side alone -/

/-- The state a part of a request stands in, whether it goes on or an error was raised. -/
def Flow.last : Flow → State
  | .go s => s
  | .stop _ s => s

@[simp] theorem Flow.last_go (s : State) : (Flow.go s).last = s := rfl

@[simp] theorem Flow.last_stop (k : ErrorKind) (s : State) : (Flow.stop k s).last = s := rfl

/-- What work on the bus and the lines leaves unchanged from `s` to `t` (10_state.md R10, R11, R14). -/
structure BusFrame (s t : State) : Prop where
  cfg : t.cfg = s.cfg
  fb : t.fb = s.fb
  req : t.req = s.req
  requests : t.requests = s.requests

theorem BusFrame.refl (s : State) : BusFrame s s := ⟨rfl, rfl, rfl, rfl⟩

theorem BusFrame.trans {s t u : State} (h : BusFrame s t) (h' : BusFrame t u) : BusFrame s u :=
  ⟨h'.cfg.trans h.cfg, h'.fb.trans h.fb, h'.req.trans h.req, h'.requests.trans h.requests⟩

theorem BusFrame.ended {s t : State} (h : BusFrame s t) (r : Result) : BusFrame s (ended r t) :=
  h.trans ⟨rfl, rfl, rfl, rfl⟩

theorem BusFrame.andThen {s : State} {fl : Flow} {next : State → Flow} (h : BusFrame s fl.last)
    (hn : ∀ t, BusFrame t (next t).last) : BusFrame s (fl.andThen next).last := by
  cases fl with
  | go t => exact h.trans (hn t)
  | stop k t => exact h

theorem BusFrame.finish {s : State} {fl : Flow} (h : BusFrame s fl.last) :
    ∃ r u, BusFrame s u ∧ fl.finish = Machine.ended r u := by
  cases fl <;> exact ⟨_, _, h, rfl⟩

theorem BusFrame.settle {s : State} {fl : Flow} (h : BusFrame s fl.last) : BusFrame s fl.settle := by
  cases fl with
  | go t => exact h
  | stop k t => exact h.ended _

theorem transferAll_frame (ts : List Transfer) (s : State) : BusFrame s (transferAll ts s).last := by
  rcases transferAll_cases ts s with h | ⟨n, -, -, h⟩ <;> rw [h] <;> exact ⟨rfl, rfl, rfl, rfl⟩

theorem send_frame (d : Descriptor) (s : State) : BusFrame s (send d s).last := by
  rw [send_eq_transferAll]
  exact transferAll_frame _ s

theorem sendAll_frame (ds : List Descriptor) (s : State) : BusFrame s (sendAll ds s).last := by
  rw [sendAll_eq_transferAll]
  exact transferAll_frame _ s

theorem waitIdle_frame (s : State) : BusFrame s (waitIdle s).last := by
  rcases idleAfter_or_stuck s with ⟨k, h⟩ | h
  · rw [waitIdle_idle h]
    exact ⟨rfl, rfl, rfl, rfl⟩
  · rw [waitIdle_stuck h]
    exact ⟨rfl, rfl, rfl, rfl⟩

theorem writeDrvState_frame (st : DrvState) (s : State) : BusFrame s (writeDrvState st s) := ⟨rfl, rfl, rfl, rfl⟩

theorem resetPulse_frame (s : State) : BusFrame s (resetPulse s) := ⟨rfl, rfl, rfl, rfl⟩

theorem initFlow_frame (s : State) : BusFrame s (initFlow s).last :=
  (((resetPulse_frame s).trans (waitIdle_frame _)).andThen (sendAll_frame _)).andThen (writeDrvState_frame _)

theorem updateFlow_frame (mode : RefreshMode) (planes : List Descriptor) (s : State) :
    BusFrame s (updateFlow mode planes s).last := by
  unfold updateFlow
  split
  · exact BusFrame.refl s
  · exact ((((sendAll_frame _ s).andThen (sendAll_frame _)).andThen (sendAll_frame _)).andThen
      fun t => (writeDrvState_frame _ t).trans (waitIdle_frame _)).andThen (writeDrvState_frame _)

theorem sleepFlow_frame (s : State) : BusFrame s (sleepFlow s).last :=
  (sendAll_frame _ s).andThen (writeDrvState_frame _)

/-! ### What an instruction can do -/

/-- The two requests that draw (41_framebuffer.md R125, R126). -/
def Draws (i : Instr) : Prop :=
  (∃ x y col, i = .setPixel x y col) ∨ ∃ col, i = .clear col

theorem runRamWrite_next {p : PlaneId} {bytes : List Byte} {s t : State} (h : runRamWrite p bytes s = .next t) :
    ∃ d, t = (send d s).settle := by
  unfold runRamWrite at h
  split at h
  · exact ⟨_, (Host.Outcome.next.inj h).symm⟩
  · cases h

/-- What a descriptor can do: put one `Send` on the bus. -/
theorem exec_descriptor {i : Instr} {s t : State} (hi : isRequest i = false) (h : exec i s = .next t) :
    ∃ d, t = (send d s).settle := by
  cases i with
  | init | setPixel | clear | update | sleep => cases hi
  | writeRamBw | writeRamRed => exact runRamWrite_next h
  | _ => exact ⟨_, (Host.Outcome.next.inj h).symm⟩

theorem exec_init {s t : State} (h : exec .init s = .next t) : t = (initFlow s).finish :=
  (Host.Outcome.next.inj h).symm

/-- What UPDATE can do: fail its state check, or run its body. -/
theorem exec_update {mode : RefreshMode} {s t : State} (h : exec (.update mode) s = .next t) :
    t = ended (.err .invalidState) s ∨ ∃ planes, t = (updateFlow mode planes s).finish := by
  change execUpdate mode s = .next t at h
  unfold execUpdate at h
  split at h
  · exact .inl (Host.Outcome.next.inj h).symm
  · split at h
    · exact .inr ⟨_, (Host.Outcome.next.inj h).symm⟩
    · cases h

/-- What SLEEP can do: fail its state check, or run its body. -/
theorem exec_sleep {s t : State} (h : exec .sleep s = .next t) :
    t = ended (.err .invalidState) s ∨ t = (sleepFlow s).finish := by
  change execSleep s = .next t at h
  unfold execSleep at h
  split at h
  · exact .inl (Host.Outcome.next.inj h).symm
  · exact .inr (Host.Outcome.next.inj h).symm

/-- A drawing request that goes on ends with `Ok` and the framebuffer its stores gave. -/
theorem keepFramebuffer_next {stored : Except Fault Framebuffer} {s t : State}
    (h : keepFramebuffer stored s = .next t) : ∃ fb, stored = .ok fb ∧ t = ended .ok { s with fb := fb } := by
  cases stored with
  | ok fb => exact ⟨fb, rfl, (Host.Outcome.next.inj h).symm⟩
  | error f => cases h

/-- What SET_PIXEL can do: fail one of its two checks, or store the bits of a pixel inside the panel. -/
theorem exec_setPixel {x y : Half} {col : Color} {s t : State} (h : exec (.setPixel x y col) s = .next t) :
    (∃ k, t = ended (.err k) s) ∨
      ∃ px py fb, rotate s.cfg x.toNat y.toNat = (px, py) ∧ px < s.cfg.width ∧ py < s.cfg.height ∧
        storePixel s.cfg s.fb (locate s.cfg px py).1 (locate s.cfg px py).2 col = .ok fb ∧
        t = ended .ok { s with fb := fb } := by
  change execSetPixel x y col s = .next t at h
  unfold execSetPixel at h
  split at h
  · exact .inl ⟨_, (Host.Outcome.next.inj h).symm⟩
  · split at h
    · exact .inl ⟨_, (Host.Outcome.next.inj h).symm⟩
    · next hb =>
      obtain ⟨hx, hy⟩ := inBounds_iff.1 (by simpa using hb)
      obtain ⟨hpx, hpy⟩ := rotate_lt hx hy
      obtain ⟨fb, hs, ht⟩ := keepFramebuffer_next h
      exact .inr ⟨_, _, fb, rfl, hpx, hpy, hs, ht⟩

/-- What CLEAR can do: fail its colour check, or fill the allocated planes. -/
theorem exec_clear {col : Color} {s t : State} (h : exec (.clear col) s = .next t) :
    (∃ k, t = ended (.err k) s) ∨ ∃ fb, storeFill s.cfg s.fb col = .ok fb ∧ t = ended .ok { s with fb := fb } := by
  change execClear col s = .next t at h
  unfold execClear at h
  split at h
  · exact .inl ⟨_, (Host.Outcome.next.inj h).symm⟩
  · exact .inr (keepFramebuffer_next h)

/-- A drawing request ends from the state it found, with at most another framebuffer. -/
theorem exec_draws {i : Instr} {s t : State} (hi : Draws i) (h : exec i s = .next t) :
    ∃ r fb, t = ended r { s with fb := fb } := by
  obtain ⟨x, y, col, rfl⟩ | ⟨col, rfl⟩ := hi
  · obtain ⟨k, rfl⟩ | ⟨px, py, fb, -, -, -, -, rfl⟩ := exec_setPixel h
    · exact ⟨_, s.fb, rfl⟩
    · exact ⟨_, fb, rfl⟩
  · obtain ⟨k, rfl⟩ | ⟨fb, -, rfl⟩ := exec_clear h
    · exact ⟨_, s.fb, rfl⟩
    · exact ⟨_, fb, rfl⟩

/-- INIT, UPDATE and SLEEP end from a state that bus work has led to. -/
theorem exec_sequencing {i : Instr} {s t : State} (hr : isRequest i = true) (hd : ¬ Draws i)
    (h : exec i s = .next t) : ∃ r u, BusFrame s u ∧ t = ended r u := by
  cases i with
  | init =>
    rw [exec_init h]
    exact (initFlow_frame s).finish
  | update mode =>
    obtain rfl | ⟨planes, rfl⟩ := exec_update h
    · exact ⟨_, s, BusFrame.refl s, rfl⟩
    · exact (updateFlow_frame mode planes s).finish
  | sleep =>
    obtain rfl | rfl := exec_sleep h
    · exact ⟨_, s, BusFrame.refl s, rfl⟩
    · exact (sleepFlow_frame s).finish
  | setPixel x y col => exact absurd (.inl ⟨x, y, col, rfl⟩) hd
  | clear col => exact absurd (.inr ⟨col, rfl⟩) hd
  | _ => cases hr

theorem exec_frame {i : Instr} {s t : State} (hd : ¬ Draws i) (h : exec i s = .next t) : BusFrame s t := by
  cases hr : isRequest i with
  | true =>
    obtain ⟨r, u, hu, rfl⟩ := exec_sequencing hr hd h
    exact hu.ended r
  | false =>
    obtain ⟨d, rfl⟩ := exec_descriptor hr h
    exact (send_frame d s).settle

/-- Settles O36: a drawing request only ends and stores, and every other instruction is bus work. -/
theorem framebufferAndBusAreSeparate : Obligations.FramebufferAndBusAreSeparate := by
  intro i s t h
  by_cases hd : Draws i
  · obtain ⟨r, fb, rfl⟩ := exec_draws hd h
    exact ⟨.inr hd, fun _ => ⟨rfl, rfl, rfl, rfl, rfl, rfl, rfl, rfl⟩⟩
  · exact ⟨.inl (exec_frame hd h).fb, fun hd' => absurd hd' hd⟩

/-! ### What a step can do -/

theorem exec_keeps_configuration {i : Instr} {s t : State} (h : exec i s = .next t) :
    t.cfg = s.cfg ∧ t.req = s.req ∧ t.requests = s.requests := by
  by_cases hd : Draws i
  · obtain ⟨r, fb, rfl⟩ := exec_draws hd h
    exact ⟨rfl, rfl, rfl⟩
  · obtain ⟨hcfg, -, hreq, hrequests⟩ := exec_frame hd h
    exact ⟨hcfg, hreq, hrequests⟩

theorem performPoll_not_busy {s : State} (rest : List Task) (hb : s.busyAt 0 = false) :
    performPoll rest s = { dropPollCount (busyRead s).2 with seq := .running rest } := by
  simp only [performPoll, busyRead, hb]

theorem performPoll_busy {s : State} (rest : List Task) (hb : s.busyAt 0 = true) :
    performPoll rest s =
      if (countPoll (busyRead s).2).pollN = some s.cfg.maxPolls then raiseError .timeout (countPoll (busyRead s).2)
      else { countPoll (busyRead s).2 with seq := .running (.prim (.delay .poll) :: .prim .poll :: rest) } := by
  simp only [performPoll, busyRead, hb]

/-- What a primitive can do: bus work, after which the request still runs unless a wait has timed out and dropped its
counter (10_state.md R20). -/
theorem performPrim_frame (p : Prim) (rest : List Task) (s : State) :
    BusFrame s (performPrim p rest s) ∧
      ((performPrim p rest s).seq = .idle → (performPrim p rest s).pollN = none) := by
  cases p with
  | poll =>
    rw [performPrim]
    cases hb : s.busyAt 0 with
    | false =>
      rw [performPoll_not_busy rest hb]
      exact ⟨⟨rfl, rfl, rfl, rfl⟩, nofun⟩
    | true =>
      rw [performPoll_busy rest hb]
      split
      · exact ⟨⟨rfl, rfl, rfl, rfl⟩, fun _ => rfl⟩
      · exact ⟨⟨rfl, rfl, rfl, rfl⟩, nofun⟩
  | _ => exact ⟨⟨rfl, rfl, rfl, rfl⟩, nofun⟩

/-- What a fetch can have performed by itself: the end of the request, or its next primitive. -/
theorem fetch_performed {s t : State} (h : fetch s = .performed t) :
    t = ended .ok s ∨ ∃ p rest, t = performPrim p rest s := by
  unfold fetch at h
  split at h
  · split at h <;> cases h
  · exact .inl (Fetched.performed.inj h).symm
  · cases h
  · split at h <;> cases h
  · exact .inr ⟨_, _, (Fetched.performed.inj h).symm⟩

/-- Where a fetched instruction comes from: the host's next request, or a task of the running request. -/
theorem fetch_instruction {e : Encoded} {s t : State} (h : fetch s = .instruction e t) :
    (s.seq = .idle ∧ ∃ r rest, t = presentRequest r rest s) ∨ ∃ rest, t = { s with seq := .running rest } := by
  unfold fetch at h
  split at h
  · next hidle =>
    split at h
    · cases h
    · exact .inl ⟨hidle, _, _, (Fetched.instruction.inj h).2.symm⟩
  · cases h
  · exact .inr ⟨_, (Fetched.instruction.inj h).2.symm⟩
  · split at h
    · exact .inr ⟨_, (Fetched.instruction.inj h).2.symm⟩
    · cases h
  · cases h

/-- What a step can do: nothing, what its fetch performed, or the instruction it fetched. -/
theorem step_cases {s t : State} (h : step s = .next t) :
    t = s ∨ fetch s = .performed t ∨ ∃ e u i, fetch s = .instruction e u ∧ exec i u = .next t := by
  unfold step at h
  split at h
  · split at h
    · exact .inl (Host.Outcome.next.inj h).symm
    · next hf => exact .inr (.inl (Host.Outcome.next.inj h ▸ hf))
    · cases h
    · next hf =>
      split at h
      · exact .inr (.inr ⟨_, _, _, hf, h⟩)
      · cases h
  · cases h

theorem step_keeps_cfg {s t : State} (h : step s = .next t) : t.cfg = s.cfg := by
  obtain rfl | hf | ⟨e, u, i, hf, he⟩ := step_cases h
  · rfl
  · obtain rfl | ⟨p, rest, rfl⟩ := fetch_performed hf
    · rfl
    · exact (performPrim_frame p rest s).1.cfg
  · refine (exec_keeps_configuration he).1.trans ?_
    obtain ⟨-, r, rest, rfl⟩ | ⟨rest, rfl⟩ := fetch_instruction hf <;> rfl

/-- Settles O37: no instruction is anything but bus work or drawing, and a fetch changes no configuration. -/
theorem configurationNeverChanges : Obligations.ConfigurationNeverChanges :=
  ⟨fun _ _ _ => exec_keeps_configuration, fun _ _ => step_keeps_cfg⟩

/-! ### Drawing keeps the framebuffer's invariant -/

/-- The framebuffer with `f` applied to each allocated plane: the form of both drawing requests' stores. -/
def Framebuffer.mapAllocated (c : Config) (f : PlaneId → Memory → Memory) (fb : Framebuffer) : Framebuffer where
  bw := f .bw fb.bw
  red :=
    match c.planes with
    | .one => fb.red
    | .two => f .red fb.red

theorem Framebuffer.plane_mapAllocated (c : Config) (f : PlaneId → Memory → Memory) (fb : Framebuffer) (p : PlaneId) :
    (fb.mapAllocated c f).plane p = if planeAllocated c p = true then f p (fb.plane p) else fb.plane p := by
  cases p with
  | bw => rfl
  | red => cases h : c.planes <;> simp [mapAllocated, plane, planeAllocated, h]

/-- SET_PIXEL's change of plane `p`: the bits of mask `m` in byte `i` (41_framebuffer.md R125). -/
def drawnPlane (i : Nat) (m : Byte) (col : Color) (p : PlaneId) (mem : Memory) : Memory :=
  mem.write i (putBit (planeBit col p) m (mem.read i))

/-- CLEAR's change of plane `p`: every byte (41_framebuffer.md R126). -/
def filledPlane (c : Config) (col : Color) (p : PlaneId) (mem : Memory) : Memory :=
  mem.writeAll (fillCells c (planeBit col p))

theorem storePixel_eq_mapAllocated {c : Config} {fb : Framebuffer} {i : Nat} (m : Byte) (col : Color)
    (hi : i < planeLen c) : storePixel c fb i m col = .ok (fb.mapAllocated c (drawnPlane i m col)) :=
  storePixel_ok m col hi

theorem storeFill_eq_mapAllocated (c : Config) (fb : Framebuffer) (col : Color) :
    storeFill c fb col = .ok (fb.mapAllocated c (filledPlane c col)) :=
  storeFill_ok c fb col

/-- The framebuffer's invariant is kept by a change of the allocated planes that keeps the canonical form, the bytes
outside `PLANE_LEN` and the padding, and leaves no bit set in both planes. -/
theorem FramebufferInv.mapAllocated {c : Config} {fb : Framebuffer} {f : PlaneId → Memory → Memory}
    (h : FramebufferInv c fb) (hwf : ∀ p, (f p (fb.plane p)).wf)
    (hout : ∀ p i, planeLen c ≤ i → (f p (fb.plane p)).read i = fb.read p i)
    (hpad : ∀ p, c.width % 8 ≠ 0 → ∀ row < c.height, ∀ j < 8 - c.width % 8,
      ((f p (fb.plane p)).read (row * bpr c + (bpr c - 1))).getLsbD j = false)
    (hboth : ∀ i j, ¬ (((f .bw (fb.plane .bw)).read i).getLsbD j = true ∧
      ((f .red (fb.plane .red)).read i).getLsbD j = true)) :
    FramebufferInv c (fb.mapAllocated c f) := by
  have changed : ∀ {p}, planeAllocated c p = true →
      ∀ i, (fb.mapAllocated c f).read p i = (f p (fb.plane p)).read i := by
    intro p ha i
    rw [Framebuffer.read, Framebuffer.plane_mapAllocated, if_pos ha]
  have kept : ∀ {p}, ¬ planeAllocated c p = true → ∀ i, (fb.mapAllocated c f).read p i = fb.read p i := by
    intro p ha i
    rw [Framebuffer.read, Framebuffer.plane_mapAllocated, if_neg ha, Framebuffer.read]
  have hred : ∀ p i, planeAllocated c p = false → (fb.mapAllocated c f).read p i = unlistedByte := by
    intro p i ha
    rw [kept (by simp [ha])]
    exact h.allocated p i ha
  refine ⟨fun p => ?_, fun p i hi => ?_, hred, fun p hw row hrow j hj => ?_, fun i j => ?_⟩
  · rw [Framebuffer.plane_mapAllocated]
    split
    · exact hwf p
    · exact h.canonical p
  · by_cases ha : planeAllocated c p = true
    · rw [changed ha, hout p i hi]
      exact h.inside p i hi
    · rw [kept ha]
      exact h.inside p i hi
  · by_cases ha : planeAllocated c p = true
    · rw [changed ha]
      exact hpad p hw row hrow j hj
    · rw [kept ha]
      exact h.padding p hw row hrow j hj
  · by_cases ha : planeAllocated c .red = true
    · rw [changed (p := .bw) rfl, changed ha]
      exact hboth i j
    · rw [hred .red i (by simpa using ha)]
      simp [unlistedByte]

theorem planeBit_not_both (col : Color) : ¬ (planeBit col .bw = true ∧ planeBit col .red = true) := by
  cases col <;> decide

theorem getLsbD_putBit (set : Bool) (m b : Byte) (j : Nat) :
    (putBit set m b).getLsbD j = if m.getLsbD j = true then set else b.getLsbD j := by
  have hb : b.getLsbD j = true → j < 8 := BitVec.lt_of_getLsbD
  cases set with
  | false =>
    cases hm : m.getLsbD j with
    | false => simpa [putBit, hm] using hb
    | true => simp [putBit, hm]
  | true => cases hm : m.getLsbD j <;> simp [putBit, hm]

theorem getLsbD_locate_mask (c : Config) (px py j : Nat) :
    (locate c px py).2.getLsbD j = true ↔ px % 8 + j = 7 := by
  have htop : (0x80#8) = BitVec.twoPow 8 7 := by decide
  rw [locate, BitVec.getLsbD_ushiftRight, htop, BitVec.getLsbD_twoPow]
  simp [eq_comm]

/-- A located bit is no padding bit: its column is inside the width (10_state.md R15). -/
theorem locate_not_padding {c : Config} {px py row j : Nat} (hx : px < c.width) (hw : c.width % 8 ≠ 0)
    (hi : (locate c px py).1 = row * bpr c + (bpr c - 1)) (hj : j < 8 - c.width % 8) :
    (locate c px py).2.getLsbD j ≠ true := by
  rw [Ne, getLsbD_locate_mask]
  have hlt : px / 8 < bpr c := div_eight_lt_bpr hx
  have hcol : px / 8 = bpr c - 1 := by
    have := congrArg (· % bpr c) hi
    have hlast : bpr c - 1 < bpr c := by omega
    simpa [locate, Nat.mul_add_mod_self_right, Nat.mod_eq_of_lt hlt, Nat.mod_eq_of_lt hlast] using this
  rw [bpr] at hcol
  omega

theorem read_drawnPlane {mem : Memory} (hw : mem.wf) (i : Nat) (m : Byte) (col : Color) (p : PlaneId) (k j : Nat) :
    ((drawnPlane i m col p mem).read k).getLsbD j =
      if k = i ∧ m.getLsbD j = true then planeBit col p else (mem.read k).getLsbD j := by
  by_cases hk : k = i
  · subst hk
    rw [drawnPlane, Memory.read_write_same mem hw, getLsbD_putBit]
    simp
  · rw [drawnPlane, Memory.read_write_other mem _ hk]
    simp [hk]

theorem FramebufferInv.drawn {c : Config} {fb : Framebuffer} (h : FramebufferInv c fb) {px py : Nat} (col : Color)
    (hx : px < c.width) (hy : py < c.height) :
    FramebufferInv c (fb.mapAllocated c (drawnPlane (locate c px py).1 (locate c px py).2 col)) := by
  refine h.mapAllocated (fun p => Memory.write_wf (h.canonical p) _ _) (fun p i hi => ?_)
    (fun p hw row hrow j hj => ?_) (fun i j => ?_)
  · exact Memory.read_write_other _ _ (Nat.ne_of_gt (Nat.lt_of_lt_of_le (locate_lt hx hy) hi))
  · rw [read_drawnPlane (h.canonical p), if_neg fun hbit => locate_not_padding hx hw hbit.1.symm hj hbit.2]
    exact h.padding p hw row hrow j hj
  · rw [read_drawnPlane (h.canonical .bw), read_drawnPlane (h.canonical .red)]
    split
    · exact planeBit_not_both col
    · exact h.noBoth i j

theorem lastByteMask_padding {c : Config} {j : Nat} (hw : c.width % 8 ≠ 0) (hj : j < 8 - c.width % 8) :
    (lastByteMask c).getLsbD j = false := by
  rw [lastByteMask, if_neg hw, BitVec.getLsbD_shiftLeft]
  simp [hj]

theorem FramebufferInv.filled {c : Config} {fb : Framebuffer} (h : FramebufferInv c fb) (col : Color) :
    FramebufferInv c (fb.mapAllocated c (filledPlane c col)) := by
  refine h.mapAllocated (fun p => Memory.writeAll_wf (h.canonical p) _) (fun p i hi => ?_)
    (fun p hw row hrow j hj => ?_) (fun i j => ?_)
  · exact Memory.read_fill_outside _ _ hi
  · have hpos : bpr c - 1 < bpr c := by
      rw [bpr]
      omega
    rw [filledPlane, Memory.read_fill (h.canonical p) _ (index_lt_planeLen hrow hpos), Nat.mul_add_mod_self_right,
      Nat.mod_eq_of_lt hpos, fillByte, if_pos rfl]
    split
    · exact lastByteMask_padding hw hj
    · simp
  · by_cases hi : i < planeLen c
    · rw [filledPlane, filledPlane, Memory.read_fill (h.canonical .bw) _ hi, Memory.read_fill (h.canonical .red) _ hi]
      cases col <;> simp [planeBit, encodeColor, fillByte]
    · rw [filledPlane, filledPlane, Memory.read_fill_outside _ _ (Nat.le_of_not_lt hi),
        Memory.read_fill_outside _ _ (Nat.le_of_not_lt hi)]
      exact h.noBoth i j

/-! ### Every step keeps the invariant -/

/-- A request that ends leaves no poll counter (10_state.md R20), so only the framebuffer is left to check. -/
theorem State.Inv.ended {s t : State} (h : s.Inv) (r : Result) (hcfg : t.cfg = s.cfg)
    (hfb : FramebufferInv s.cfg t.fb) : (ended r t).Inv where
  config := hcfg ▸ h.config
  framebuffer := hcfg.symm ▸ hfb
  poll _ := rfl

/-- Bus work keeps the invariant where it leaves no poll counter in an idle block. -/
theorem State.Inv.of_frame {s t : State} (h : s.Inv) (hf : BusFrame s t) (hp : t.seq = .idle → t.pollN = none) :
    t.Inv where
  config := hf.cfg ▸ h.config
  framebuffer := hf.cfg ▸ hf.fb ▸ h.framebuffer
  poll := hp

theorem State.Inv.ended_frame {s t : State} (h : s.Inv) (r : Result) (hf : BusFrame s t) : (Machine.ended r t).Inv :=
  h.of_frame (hf.ended r) fun _ => rfl

theorem State.Inv.settle_send {s : State} (h : s.Inv) (d : Descriptor) : (send d s).settle.Inv := by
  rw [send_eq_transferAll]
  rcases transferAll_cases (transfersOf d.op d.data) s with ht | ⟨n, -, -, ht⟩ <;> rw [ht]
  · exact h.of_frame ⟨rfl, rfl, rfl, rfl⟩ h.poll
  · exact h.ended_frame _ ⟨rfl, rfl, rfl, rfl⟩

theorem State.Inv.exec_draws {i : Instr} {s t : State} (h : s.Inv) (hd : Draws i) (he : exec i s = .next t) :
    t.Inv := by
  obtain ⟨x, y, col, rfl⟩ | ⟨col, rfl⟩ := hd
  · obtain ⟨k, rfl⟩ | ⟨px, py, fb, -, hpx, hpy, hs, rfl⟩ := exec_setPixel he
    · exact h.ended_frame _ (BusFrame.refl s)
    · rw [storePixel_eq_mapAllocated _ _ (locate_lt hpx hpy)] at hs
      obtain rfl := Except.ok.inj hs
      exact h.ended _ rfl (h.framebuffer.drawn col hpx hpy)
  · obtain ⟨k, rfl⟩ | ⟨fb, hs, rfl⟩ := exec_clear he
    · exact h.ended_frame _ (BusFrame.refl s)
    · rw [storeFill_eq_mapAllocated] at hs
      obtain rfl := Except.ok.inj hs
      exact h.ended _ rfl (h.framebuffer.filled col)

theorem State.Inv.exec {i : Instr} {s t : State} (h : s.Inv) (he : exec i s = .next t) : t.Inv := by
  by_cases hd : Draws i
  · exact h.exec_draws hd he
  · cases hr : isRequest i with
    | true =>
      obtain ⟨r, u, hu, rfl⟩ := exec_sequencing hr hd he
      exact h.ended_frame r hu
    | false =>
      obtain ⟨d, rfl⟩ := exec_descriptor hr he
      exact h.settle_send d

theorem State.Inv.fetch_instruction {e : Encoded} {s t : State} (h : s.Inv) (hf : fetch s = .instruction e t) :
    t.Inv := by
  obtain ⟨-, r, rest, rfl⟩ | ⟨rest, rfl⟩ := Machine.fetch_instruction hf
  · exact ⟨h.config, h.framebuffer, h.poll⟩
  · exact ⟨h.config, h.framebuffer, fun hidle => by cases hidle⟩

/-- Settles O3: a step does nothing, performs a primitive or the end of a request, or runs an instruction, and each
keeps the invariant. -/
theorem everyStepKeepsInvariant : Obligations.EveryStepKeepsInvariant := by
  intro s t h hs
  obtain rfl | hf | ⟨e, u, i, hf, he⟩ := step_cases hs
  · exact h
  · obtain rfl | ⟨p, rest, rfl⟩ := fetch_performed hf
    · exact h.ended_frame _ (BusFrame.refl s)
    · obtain ⟨hframe, hpoll⟩ := performPrim_frame p rest s
      exact h.of_frame hframe hpoll
  · exact (h.fetch_instruction hf).exec he

/-! ### Construction -/

/-- An empty plane reads as every plane does after construction (10_state.md R16). -/
theorem State.initial_read (c : Config) (p : PlaneId) (i : Nat) : (State.initial c).fb.read p i = unlistedByte := by
  cases p <;> rfl

theorem State.initial_inv {c : Config} (h : c.WellFormed) : (State.initial c).Inv where
  config := h
  framebuffer :=
    { canonical := fun p => by cases p <;> exact ⟨List.Pairwise.nil, by simp [State.initial, Framebuffer.plane]⟩
      inside := fun p i _ => State.initial_read c p i
      allocated := fun p i _ => State.initial_read c p i
      padding := fun p _ row _ j _ => by simp [State.initial_read, unlistedByte]
      noBoth := fun i j => by simp [State.initial_read, unlistedByte] }
  poll _ := rfl

/-- Settles O1: construction checks the configuration and sets each field from 70_reset_and_hazards.md R200's table. -/
theorem constructionSetsEveryField : Obligations.ConstructionSetsEveryField := fun c =>
  ⟨fun h => if_pos h, fun h => if_neg h, rfl, rfl, State.initial_read c, rfl, rfl, rfl, rfl⟩

/-- Settles O2: an empty framebuffer meets every part of the invariant, and `State.reset`'s configuration is one. -/
theorem constructionMeetsInvariant : Obligations.ConstructionMeetsInvariant :=
  ⟨State.initial_inv (by decide), fun _ => State.initial_inv⟩

end Sys2Proof.Machine
end

section
/-! PROOFS. What one step does in each state it can find (spec/10_state.md R10, R11, R19), and that stepping a request
task by task is running it whole (42_display_driver.md R142, R144, R145). -/

namespace Sys2Proof.Machine

/-! ### One step, by what it finds -/

theorem step_illFormed {s : State} (h : ¬ s.cfg.WellFormed) : step s = .refused .illFormedConfig := by
  rw [step, if_neg h]

theorem step_performed {s t : State} (hw : s.cfg.WellFormed) (hf : fetch s = .performed t) : step s = .next t := by
  rw [step, if_pos hw, hf]

theorem step_decoded {s t : State} {e : Encoded} {i : Instr} (hw : s.cfg.WellFormed)
    (hf : fetch s = .instruction e t) (hd : decode s.cfg e = .ok i) : step s = exec i t := by
  simp only [step, if_pos hw, hf, hd]

theorem step_undecodable {s t : State} {e : Encoded} {err : DecodeError} (hw : s.cfg.WellFormed)
    (hf : fetch s = .instruction e t) (hd : decode s.cfg e = .error err) :
    step s = .refused (.undecodable err) := by
  simp only [step, if_pos hw, hf, hd]

theorem fetch_request {s : State} {r : Request} {rest : List Request} (hs : s.seq = .idle)
    (hr : s.requests = r :: rest) : fetch s = .instruction (.req r) (presentRequest r rest s) := by
  simp only [fetch, hs, hr]

theorem fetch_send {s : State} {d : Descriptor} {rest : List Task} (hs : s.seq = .running (.send d :: rest)) :
    fetch s = .instruction (.cmd d) { s with seq := .running rest } := by
  simp only [fetch, hs]

theorem fetch_sendPlane {s : State} {p : PlaneId} {d : Descriptor} {rest : List Task}
    (hs : s.seq = .running (.sendPlane p :: rest)) (hd : planeDescriptor s.cfg s.fb p = .ok d) :
    fetch s = .instruction (.cmd d) { s with seq := .running rest } := by
  simp only [fetch, hs, hd]

theorem fetch_prim {s : State} {p : Prim} {rest : List Task} (hs : s.seq = .running (.prim p :: rest)) :
    fetch s = .performed (performPrim p rest s) := by
  simp only [fetch, hs]

theorem fetch_end {s : State} (hs : s.seq = .running []) : fetch s = .performed (ended .ok s) := by
  simp only [fetch, hs]
  rfl

/-- With pairwise different opcode bytes (00_scope.md R5) a descriptor of command `k` decodes by its data alone. -/
theorem decodeDescriptor_opcodeOf {c : Config} (hw : c.WellFormed) (k : Cmd) (data : List Byte) :
    decodeDescriptor c ⟨opcodeOf c.opc k, data⟩ = decodeData c k data := by
  obtain ⟨-, -, -, -, -, hnodup⟩ := hw
  simp only [decodeDescriptor, commandOf_opcodeOf hnodup]

/-- A RAM write carries one whole plane that is allocated (40_command_encoder.md R107). -/
def WritesWholePlane (c : Config) : Instr → Prop
  | .writeRamBw bytes => bytes.length = planeLen c
  | .writeRamRed bytes => c.planes = .two ∧ bytes.length = planeLen c
  | _ => True

theorem decodeDescriptor_encode {c : Config} {i : Instr} {d : Descriptor} (hw : c.WellFormed)
    (he : encode c i = .cmd d) (hp : WritesWholePlane c i) : decodeDescriptor c d = .ok i := by
  cases i with
  | init | setPixel | clear | update | sleep => cases he
  | driverOutputControl lines scan =>
    obtain rfl := Encoded.cmd.inj he
    rw [driverOutputControl, decodeDescriptor_opcodeOf hw, decodeData, fromBytes_lo8_hi8]
  | ramYRange ys ye =>
    obtain rfl := Encoded.cmd.inj he
    rw [ramYRange, decodeDescriptor_opcodeOf hw, decodeData, fromBytes_lo8_hi8, fromBytes_lo8_hi8]
  | writeRamBw bytes =>
    obtain rfl := Encoded.cmd.inj he
    rw [writeRamBw, decodeDescriptor_opcodeOf hw, decodeData]
    exact if_pos hp
  | writeRamRed bytes =>
    obtain rfl := Encoded.cmd.inj he
    rw [writeRamRed, decodeDescriptor_opcodeOf hw, decodeData]
    exact if_pos hp.2
  | _ =>
    obtain rfl := Encoded.cmd.inj he
    exact decodeDescriptor_opcodeOf hw _ _

theorem step_sendPlane_bw {s : State} {rest : List Task} (hw : s.cfg.WellFormed)
    (hs : s.seq = .running (.sendPlane .bw :: rest)) :
    step s = exec (.writeRamBw (planeBytes s.cfg s.fb .bw)) { s with seq := .running rest } :=
  step_decoded hw (fetch_sendPlane hs (planeDescriptor_bw s.cfg s.fb))
    (decodeDescriptor_encode (i := .writeRamBw _) hw rfl (planeBytes_length s.cfg s.fb .bw))

/-- Where the red plane is not allocated, the fetch and the instruction refuse alike (30_encoding.md R73). -/
theorem step_sendPlane_red {s : State} {rest : List Task} (hw : s.cfg.WellFormed)
    (hs : s.seq = .running (.sendPlane .red :: rest)) :
    step s = exec (.writeRamRed (planeBytes s.cfg s.fb .red)) { s with seq := .running rest } := by
  cases hp : s.cfg.planes with
  | two =>
    exact step_decoded hw (fetch_sendPlane hs (planeDescriptor_red s.fb hp))
      (decodeDescriptor_encode (i := .writeRamRed _) hw rfl ⟨hp, planeBytes_length s.cfg s.fb .red⟩)
  | one =>
    have hna : planeAllocated s.cfg .red = false := by simp [planeAllocated, hp]
    have hstep : step s = .refused (.planeNotAllocated .red) := by
      simp [step, hw, fetch, hs, planeDescriptor, asBytes_eq, hna]
    have hexec : exec (.writeRamRed (planeBytes s.cfg s.fb .red)) { s with seq := .running rest } =
        .refused (.planeNotAllocated .red) := by
      simp [exec, execWriteRamRed, runRamWrite, writeRam, hna]
    rw [hstep, hexec]

/-- Settles O9: an idle fetch presents the request, and the decoder decides. -/
theorem stepRunsNextRequest : Obligations.StepRunsNextRequest := fun _ _ _ hw hs hr =>
  ⟨fun _ hd => step_decoded hw (fetch_request hs hr) hd, fun _ hd => step_undecodable hw (fetch_request hs hr) hd⟩

/-- Settles O10: one clause per form of the next task. -/
theorem stepRunsNextTask : Obligations.StepRunsNextTask := fun _ _ hw =>
  ⟨fun _ _ hs hd => step_decoded hw (fetch_send hs) hd, step_sendPlane_bw hw, step_sendPlane_red hw,
    fun hs => step_performed hw (fetch_end hs)⟩

/-- Settles O12: `step` checks the configuration before anything else. -/
theorem illFormedConfigurationRefused : Obligations.IllFormedConfigurationRefused := fun _ => step_illFormed

/-! ### Reaching a state by steps -/

/-- Some number of steps leads from `s` to `t`. -/
def Reaches (s t : State) : Prop :=
  ∃ n, Host.Core.run Sys2Proof.core n s = .next t

theorem Reaches.refl (s : State) : Reaches s s := ⟨0, rfl⟩

theorem Reaches.head {s t u : State} (h : step s = .next t) (h' : Reaches t u) : Reaches s u := by
  obtain ⟨n, hn⟩ := h'
  refine ⟨n + 1, ?_⟩
  have hstep : Host.Core.step Sys2Proof.core s = .next t := h
  simp only [Host.Core.run, hstep]
  exact hn

theorem Reaches.of_step {s t : State} (h : step s = .next t) : Reaches s t := .head h (.refl t)

theorem Reaches.trans {s t u : State} (h : Reaches s t) (h' : Reaches t u) : Reaches s u := by
  obtain ⟨n, hn⟩ := h
  induction n generalizing s with
  | zero =>
    obtain rfl := Host.Outcome.next.inj hn
    exact h'
  | succ n ih =>
    simp only [Host.Core.run] at hn
    split at hn
    · next hstep => exact .head hstep (ih hn)
    · cases hn
    · cases hn

/-! ### Tasks that perform a part of a request -/

/-- Where the sequencer stands once a part of a request is over, with `rest` still to perform. -/
def Flow.resume (rest : List Task) : Flow → State
  | .go s => startTasks rest s
  | .stop k s => raiseError k s

/-- In every state with configuration `c` and framebuffer `fb`, stepping `tasks` is the part `part` of a request, and
that part leaves both alone (42_display_driver.md R152). -/
structure Performs (c : Config) (fb : Framebuffer) (tasks : List Task) (part : State → Flow) : Prop where
  frame : ∀ s, BusFrame s (part s).last
  reaches : ∀ s rest, s.cfg = c → s.fb = fb → Reaches (startTasks (tasks ++ rest) s) ((part s).resume rest)

theorem Performs.andThen {c : Config} {fb : Framebuffer} {ts us : List Task} {f g : State → Flow}
    (hf : Performs c fb ts f) (hg : Performs c fb us g) :
    Performs c fb (ts ++ us) fun s => (f s).andThen g where
  frame s := (hf.frame s).andThen hg.frame
  reaches s rest hc hb := by
    have hr := hf.reaches s (us ++ rest) hc hb
    have hframe := hf.frame s
    rw [List.append_assoc]
    cases h : f s with
    | stop k t => simpa [h, Flow.resume] using hr
    | go t =>
      rw [h] at hr hframe
      exact hr.trans (hg.reaches t rest (hframe.cfg.trans hc) (hframe.fb.trans hb))

/-- A primitive that is no turn of a wait performs its one operation. -/
theorem Performs.prim {c : Config} (hw : c.WellFormed) (fb : Framebuffer) {p : Prim} {op : State → State}
    (hframe : ∀ s, BusFrame s (op s))
    (hop : ∀ s rest, performPrim p rest (startTasks (.prim p :: rest) s) = startTasks rest (op s)) :
    Performs c fb [.prim p] fun s => .go (op s) where
  frame := hframe
  reaches s rest hc _ := by
    have hstep := step_performed (hc.symm ▸ hw) (fetch_prim (startTasks_seq (.prim p :: rest) s))
    rw [hop] at hstep
    exact .of_step hstep

theorem Performs.writeDrvState {c : Config} (hw : c.WellFormed) (fb : Framebuffer) (st : DrvState) :
    Performs c fb [.prim (.writeDrv st)] fun s => .go (writeDrvState st s) :=
  .prim hw fb (writeDrvState_frame st) fun _ _ => rfl

theorem Performs.resetPulse {c : Config} (hw : c.WellFormed) (fb : Framebuffer) :
    Performs c fb resetPulseTasks fun s => .go (resetPulse s) :=
  ((Performs.prim (op := rstAssert) hw fb (fun _ => ⟨rfl, rfl, rfl, rfl⟩) fun _ _ => rfl).andThen
    (.prim (op := delay .resetHold) hw fb (fun _ => ⟨rfl, rfl, rfl, rfl⟩) fun _ _ => rfl)).andThen
    ((Performs.prim (op := rstDeassert) hw fb (fun _ => ⟨rfl, rfl, rfl, rfl⟩) fun _ _ => rfl).andThen
      (.prim (op := delay .resetSettle) hw fb (fun _ => ⟨rfl, rfl, rfl, rfl⟩) fun _ _ => rfl))

/-! ### Sends -/

/-- A `Send` reads neither `SEQ` nor the last result. -/
theorem settle_send_startTasks (d : Descriptor) (rest : List Task) (s : State) :
    (send d (startTasks rest s)).settle = (send d s).resume rest := by
  rw [send_eq_transferAll]
  rcases busOk_or_failsAt s (transfersOf d.op d.data).length with h | ⟨n, hn, h⟩
  · rw [transferAll_ok _ s h, transferAll_ok _ (startTasks rest s) h]
    rfl
  · rw [transferAll_err _ s n hn h, transferAll_err _ (startTasks rest s) n hn h]
    rfl

/-- A descriptor the block can put on the bus: the encoding of an instruction that `write_ram` does not refuse. -/
def Sendable (c : Config) (d : Descriptor) : Prop :=
  ∃ i, encode c i = .cmd d ∧ WritesWholePlane c i

/-- The meaning of a descriptor is its `Send` (20_memory.md R40). -/
theorem exec_encode {s : State} {i : Instr} {d : Descriptor} (he : encode s.cfg i = .cmd d)
    (hp : WritesWholePlane s.cfg i) : exec i s = runDescriptor d s := by
  cases i with
  | init | setPixel | clear | update | sleep => cases he
  | writeRamBw bytes =>
    obtain rfl := Encoded.cmd.inj he
    simp only [exec, execWriteRamBw, runRamWrite, writeRam_bw hp]
  | writeRamRed bytes =>
    obtain rfl := Encoded.cmd.inj he
    obtain ⟨hplanes, hlength⟩ := hp
    simp only [exec, execWriteRamRed, runRamWrite, writeRam_red hplanes hlength]
  | _ =>
    obtain rfl := Encoded.cmd.inj he
    rfl

/-- A task that fetches a sendable descriptor performs its `Send`. -/
theorem Performs.of_fetch {c : Config} (hw : c.WellFormed) {fb : Framebuffer} {task : Task} {d : Descriptor}
    (hd : Sendable c d)
    (hf : ∀ s rest, s.cfg = c → s.fb = fb →
      fetch (startTasks (task :: rest) s) = .instruction (.cmd d) (startTasks rest s)) :
    Performs c fb [task] (send d) where
  frame := send_frame d
  reaches s rest hc hb := by
    subst hc
    obtain ⟨i, he, hp⟩ := hd
    have hstep : step (startTasks (task :: rest) s) = exec i (startTasks rest s) :=
      step_decoded hw (hf s rest rfl hb) (decodeDescriptor_encode hw he hp)
    rw [exec_encode (s := startTasks rest s) he hp, runDescriptor, settle_send_startTasks] at hstep
    exact .of_step hstep

theorem Performs.send {c : Config} (hw : c.WellFormed) (fb : Framebuffer) {d : Descriptor} (hd : Sendable c d) :
    Performs c fb [.send d] (send d) :=
  .of_fetch hw hd fun s rest _ _ => fetch_send (startTasks_seq (.send d :: rest) s)

theorem Performs.sendPlane {c : Config} (hw : c.WellFormed) {fb : Framebuffer} {p : PlaneId} {d : Descriptor}
    (hd : Sendable c d) (hp : planeDescriptor c fb p = .ok d) : Performs c fb [.sendPlane p] (Machine.send d) :=
  .of_fetch hw hd fun s rest hc hb =>
    fetch_sendPlane (startTasks_seq (.sendPlane p :: rest) s) (by simpa [hc, hb] using hp)

theorem Performs.sendAll {c : Config} {fb : Framebuffer} {tasks : List Task} {ds : List Descriptor}
    (h : List.Forall₂ (fun task d => Performs c fb [task] (Machine.send d)) tasks ds) :
    Performs c fb tasks (sendAll ds) := by
  induction h with
  | nil => exact ⟨BusFrame.refl, fun s rest _ _ => .refl _⟩
  | cons hd _ ih => exact hd.andThen ih

theorem Performs.sendAll_map {c : Config} (hw : c.WellFormed) (fb : Framebuffer) {ds : List Descriptor}
    (h : ∀ d ∈ ds, Sendable c d) : Performs c fb (ds.map .send) (Machine.sendAll ds) :=
  .sendAll (List.forall₂_map_left_iff.2 (List.forall₂_same.2 fun d hd => .send hw fb (h d hd)))

theorem Performs.planes {c : Config} (hw : c.WellFormed) {fb : Framebuffer} {planes : List Descriptor}
    (h : planeDescriptors c fb = .ok planes) : Performs c fb (planeTasks c) (Machine.sendAll planes) := by
  have bw : Performs c fb [.sendPlane .bw] (Machine.send (writeRamBw c (planeBytes c fb .bw))) :=
    .sendPlane hw ⟨.writeRamBw _, rfl, planeBytes_length c fb .bw⟩ (planeDescriptor_bw c fb)
  cases hp : c.planes with
  | one =>
    simp only [planeDescriptors, planeDescriptor_bw, hp, Except.ok.injEq] at h
    subst h
    rw [planeTasks, hp]
    exact .sendAll (.cons bw .nil)
  | two =>
    simp only [planeDescriptors, planeDescriptor_bw, planeDescriptor_red fb hp, hp, Except.ok.injEq] at h
    subst h
    rw [planeTasks, hp]
    exact .sendAll (.cons bw (.cons
      (.sendPlane hw ⟨.writeRamRed _, rfl, hp, planeBytes_length c fb .red⟩ (planeDescriptor_red fb hp)) .nil))

theorem sendable_initializationSequence (c : Config) (w h : Nat) (rot : Rotation) :
    ∀ d ∈ initializationSequence c w h rot, Sendable c d := by
  simp only [initializationSequence, List.forall_mem_cons]
  exact ⟨⟨.driverOutputControl _ _, rfl, trivial⟩, ⟨.dataEntryMode _, rfl, trivial⟩, ⟨.ramXRange _ _, rfl, trivial⟩,
    ⟨.ramYRange _ _, rfl, trivial⟩, ⟨.borderWaveform _, rfl, trivial⟩, ⟨.tempSensor _, rfl, trivial⟩,
    ⟨.updateCtrl1 _ _, rfl, trivial⟩, List.forall_mem_nil _⟩

theorem sendable_setRamWindow {c : Config} {x0 y0 x1 y1 : Nat} {window : List Descriptor}
    (h : setRamWindow c x0 y0 x1 y1 = .ok window) : ∀ d ∈ window, Sendable c d := by
  unfold setRamWindow at h
  split at h
  · obtain rfl := Except.ok.inj h
    simp only [List.forall_mem_cons]
    exact ⟨⟨.ramXRange _ _, rfl, trivial⟩, ⟨.ramYRange _ _, rfl, trivial⟩, List.forall_mem_nil _⟩
  · cases h

theorem sendable_triggerUpdate (c : Config) (mode : RefreshMode) : ∀ d ∈ triggerUpdate c mode, Sendable c d := by
  simp only [triggerUpdate, List.forall_mem_cons]
  exact ⟨⟨.updateCtrl2 _, rfl, trivial⟩, ⟨.masterActivation, rfl, trivial⟩, List.forall_mem_nil _⟩

theorem sendable_sleepSequence (c : Config) : ∀ d ∈ sleepSequence c, Sendable c d := by
  simp only [sleepSequence, List.forall_mem_singleton]
  exact ⟨.deepSleep _, rfl, trivial⟩

/-! ### The wait -/

theorem pollLoop_not_busy {s : State} (n : Nat) (hb : s.busyAt 0 = false) :
    pollLoop (n + 1) s = .go (busyRead s).2 := by
  simp only [pollLoop, busyRead, hb]

theorem pollLoop_busy {s : State} (n : Nat) (hb : s.busyAt 0 = true) :
    pollLoop (n + 1) s =
      if n = 0 then .stop .timeout (countPoll (busyRead s).2)
      else pollLoop n (delay .poll (countPoll (busyRead s).2)) := by
  simp only [pollLoop, busyRead, hb]

/-- With `k` polls counted and `n + 1` left, stepping the sequencer's turns is the loop of `WaitIdle`. -/
theorem reaches_pollLoop {c : Config} (hw : c.WellFormed) (rest : List Task) (n k : Nat) (s : State) (hc : s.cfg = c)
    (hk : s.pollN = some k) (hn : k + (n + 1) = c.maxPolls) :
    Reaches (startTasks (.prim .poll :: rest) s)
      (((pollLoop (n + 1) s).andThen fun t => .go (dropPollCount t)).resume rest) := by
  have hstep := step_performed (hc.symm ▸ hw) (fetch_prim (startTasks_seq (.prim .poll :: rest) s))
  rw [performPrim] at hstep
  cases hb : s.busyAt 0 with
  | false =>
    rw [performPoll_not_busy (s := startTasks _ s) rest hb] at hstep
    rw [pollLoop_not_busy n hb]
    exact .of_step hstep
  | true =>
    have hcount : (countPoll (busyRead (startTasks (.prim .poll :: rest) s)).2).pollN = some (k + 1) := by
      simp [busyRead, hk]
    rw [performPoll_busy (s := startTasks _ s) rest hb, hcount, startTasks_cfg, hc, ← hn] at hstep
    rw [pollLoop_busy n hb]
    cases n with
    | zero =>
      rw [if_pos rfl] at hstep ⊢
      exact .of_step hstep
    | succ n =>
      rw [if_neg (by simp)] at hstep ⊢
      have hdelay := step_performed (hc.symm ▸ hw)
        (fetch_prim (startTasks_seq (.prim (.delay .poll) :: .prim .poll :: rest) (countPoll (busyRead s).2)))
      refine .head hstep (.head hdelay ?_)
      exact reaches_pollLoop hw rest n (k + 1) (delay .poll (countPoll (busyRead s).2)) hc (by simp [busyRead, hk])
        (by omega)

theorem Performs.waitIdle {c : Config} (hw : c.WellFormed) (fb : Framebuffer) :
    Performs c fb waitIdleTasks waitIdle where
  frame := waitIdle_frame
  reaches s rest hc _ := by
    have hstart := step_performed (hc.symm ▸ hw)
      (fetch_prim (startTasks_seq (.prim .pollStart :: .prim .poll :: rest) s))
    have ⟨_, _, _, _, hpolls, _⟩ := hw
    obtain ⟨n, hn⟩ := Nat.exists_eq_add_of_le' hpolls
    refine .head hstart ?_
    rw [Machine.waitIdle, hc, hn]
    exact reaches_pollLoop hw rest n 0 (startPollCount s) hc rfl (by omega)

/-! ### Whole requests -/

/-- Tasks that perform a request's whole body reach the state it ends in. -/
theorem Performs.whole {s : State} (hw : s.cfg.WellFormed) {tasks : List Task} {part : State → Flow}
    (h : Performs s.cfg s.fb tasks part) : Reaches (startTasks tasks s) (part s).finish := by
  have hr := h.reaches s [] rfl rfl
  have hframe := h.frame s
  rw [List.append_nil] at hr
  cases hp : part s with
  | stop k t =>
    rw [hp] at hr
    exact hr
  | go t =>
    rw [hp] at hr hframe
    exact hr.trans (.of_step (step_performed (hframe.cfg.symm ▸ hw) (fetch_end (startTasks_seq [] t))))

theorem reaches_init {s : State} (hw : s.cfg.WellFormed) : Reaches (beginInit s) (initFlow s).finish :=
  ((((Performs.resetPulse hw s.fb).andThen (.waitIdle hw s.fb)).andThen
    (.sendAll_map hw s.fb (sendable_initializationSequence s.cfg _ _ _))).andThen
      (.writeDrvState hw s.fb .ready)).whole hw

theorem reaches_sleep {s : State} (hw : s.cfg.WellFormed) :
    Reaches (startTasks (sleepTasks s.cfg) s) (sleepFlow s).finish :=
  ((Performs.sendAll_map hw s.fb (sendable_sleepSequence s.cfg)).andThen (.writeDrvState hw s.fb .sleeping)).whole hw

theorem reaches_update {s : State} (hw : s.cfg.WellFormed) {mode : RefreshMode} {window planes : List Descriptor}
    (hwin : setRamWindow s.cfg 0 0 (s.cfg.width - 1) (s.cfg.height - 1) = .ok window)
    (hp : planeDescriptors s.cfg s.fb = .ok planes) :
    Reaches (startTasks (updateTasks s.cfg window mode) s) (updateFlow mode planes s).finish := by
  have hbody := ((((((Performs.sendAll_map hw s.fb (sendable_setRamWindow hwin)).andThen (.planes hw hp)).andThen
    (.sendAll_map hw s.fb (sendable_triggerUpdate s.cfg mode))).andThen
      (.writeDrvState hw s.fb .updating)).andThen (.waitIdle hw s.fb)).andThen (.writeDrvState hw s.fb .ready)).whole hw
  rw [updateTasks]
  simpa only [updateFlow, hwin, Flow.andThen_assoc, Flow.go_andThen] using hbody

/-- Settles O43: each request's tasks perform its body part by part; a request its state check refuses has ended
before its first task. -/
theorem sequencerRunsWholeRequests : Obligations.SequencerRunsWholeRequests := by
  intro s hw
  refine ⟨reaches_init hw, fun mode => ?_, ?_⟩
  · have ⟨hwidth, _, hheight, _, _, _⟩ := hw
    obtain ⟨planes, hp, -⟩ := planeDescriptors_eq s.cfg s.fb
    have hwin := setRamWindow_full hwidth hheight
    cases hr : stateReady s with
    | false => exact ⟨0, by simp only [beginUpdate, exec, execUpdate, hr, if_true]; rfl⟩
    | true =>
      simp only [beginUpdate, exec, execUpdate, hr, hp, hwin, Bool.true_eq_false, if_false]
      exact reaches_update hw hwin hp
  · cases hr : stateReady s with
    | false => exact ⟨0, by simp only [beginSleep, exec, execSleep, hr, if_true]; rfl⟩
    | true =>
      simp only [beginSleep, exec, execSleep, hr, Bool.true_eq_false, if_false]
      exact reaches_sleep hw

end Sys2Proof.Machine
end

section
/-! PROOFS. Single accesses (spec/20_memory.md): where a pixel is stored (R31), the line primitives (R34, R35, R39), and
that no access leaves the framebuffer (R30, R48). -/

namespace Sys2Proof.Machine

/-! ### The located bit -/

/-- The mask is one-hot, most significant bit first (20_memory.md R31). -/
theorem locate_mask_eq_twoPow (c : Config) (px py : Nat) :
    (locate c px py).2 = BitVec.twoPow 8 (7 - px % 8) := by
  apply BitVec.eq_of_getLsbD_eq
  intro j hj
  rw [Bool.eq_iff_iff, getLsbD_locate_mask, BitVec.getLsbD_twoPow]
  simp
  omega

theorem and_twoPow_bne_zero (b : Byte) {i : Nat} (hi : i < 8) :
    (b &&& BitVec.twoPow 8 i != 0#8) = b.getLsbD i := by
  have hne : BitVec.twoPow 8 i ≠ 0#8 := fun h => by simpa [hi] using congrArg (·.getLsbD i) h
  rw [BitVec.and_twoPow]
  cases b.getLsbD i <;> simp [hne]

theorem pixelBit_eq_getLsbD (c : Config) (fb : Framebuffer) (p : PlaneId) (px py : Nat) :
    pixelBit c fb p px py = (fb.read p (locate c px py).1).getLsbD (7 - px % 8) := by
  rw [pixelBit, locate_mask_eq_twoPow, and_twoPow_bne_zero _ (by omega)]

/-- Settles O14: the byte index is inside the plane, the mask is one power of two, and the stored bit is the one it
selects. -/
theorem locateFollowsLayout : Obligations.LocateFollowsLayout := by
  refine ⟨fun c px py hx hy => ⟨rfl, locate_lt hx hy, fun j _ => ?_, fun fb p => pixelBit_eq_getLsbD c fb p px py⟩,
    fun c hw hh => ?_⟩
  · rw [Bool.eq_iff_iff, getLsbD_locate_mask, decide_eq_true_eq]
    omega
  · simp [locate, planeLen, bpr, hw, hh]

/-- Settles O13: each primitive is one `emit` beside its latch or its used answer. -/
theorem linePrimitivesDoOneEvent : Obligations.LinePrimitivesDoOneEvent := fun _ => ⟨rfl, rfl, rfl⟩

/-! ### Nothing faults -/

theorem runDescriptor_ne_fault (d : Descriptor) (s : State) (f : Fault) : runDescriptor d s ≠ .fault f := nofun

theorem runRamWrite_ne_fault (p : PlaneId) (bytes : List Byte) (s : State) (f : Fault) :
    runRamWrite p bytes s ≠ .fault f := by
  unfold runRamWrite
  split
  · exact runDescriptor_ne_fault _ s f
  · nofun

/-- A checked coordinate is stored inside the plane (41_framebuffer.md R125). -/
theorem execSetPixel_ne_fault (x y : Half) (col : Color) (s : State) (f : Fault) : execSetPixel x y col s ≠ .fault f := by
  unfold execSetPixel
  split
  · nofun
  · split
    · nofun
    · next hb =>
      simp only [storePixel_ok _ _ (pixel_lt_planeLen (by simpa using hb))]
      nofun

theorem execClear_ne_fault (col : Color) (s : State) (f : Fault) : execClear col s ≠ .fault f := by
  unfold execClear
  split
  · nofun
  · rw [storeFill_ok]
    nofun

theorem execUpdate_ne_fault (mode : RefreshMode) (s : State) (f : Fault) : execUpdate mode s ≠ .fault f := by
  unfold execUpdate
  split
  · nofun
  · split <;> nofun

theorem execSleep_ne_fault (s : State) (f : Fault) : execSleep s ≠ .fault f := by
  unfold execSleep
  split <;> nofun

theorem exec_ne_fault (i : Instr) (s : State) (f : Fault) : exec i s ≠ .fault f := by
  cases i with
  | writeRamBw bytes => exact runRamWrite_ne_fault .bw bytes s f
  | writeRamRed bytes => exact runRamWrite_ne_fault .red bytes s f
  | setPixel x y col => exact execSetPixel_ne_fault x y col s f
  | clear col => exact execClear_ne_fault col s f
  | update mode => exact execUpdate_ne_fault mode s f
  | sleep => exact execSleep_ne_fault s f
  | init => nofun
  | _ => exact runDescriptor_ne_fault _ s f

/-- Only an instruction could fault in a step. -/
theorem step_ne_fault (s : State) (f : Fault) : step s ≠ .fault f := by
  unfold step
  split
  · split
    · nofun
    · nofun
    · nofun
    · split
      · exact exec_ne_fault _ _ f
      · nofun
  · nofun

/-- Settles O42: the drawing requests store inside the planes, and nothing else stores. -/
theorem noStepFaults : Obligations.NoStepFaults := ⟨exec_ne_fault, step_ne_fault⟩

end Sys2Proof.Machine
end

section
/-! PROOFS. The events an instruction appends: every transfer under its own mode and every opcode one of the twelve
(spec/20_memory.md R40, R49, 30_encoding.md R72, R74), the reset line only in INIT (70_reset_and_hazards.md R201). -/

namespace Sys2Proof.Machine

/-! ### Traces put together -/

theorem wellFramed_append {a : List Event} (b : List Event) (ha : wellFramed a = true) :
    wellFramed (a ++ b) = wellFramed b := by
  fun_induction wellFramed a with
  | case1 => rfl
  | case2 bytes answer rest ih | case3 bytes answer rest ih =>
    rw [Bool.and_eq_true] at ha
    simp [wellFramed, ha.1, ih ha.2]
  | case4 | case5 => cases ha
  | case6 _ rest ih | case7 _ rest ih | case8 _ rest ih => exact ih ha

/-- A framed trace does not end between a mode and its transfer, so what follows it changes none of its transfers. -/
theorem commandTransfers_append {a : List Event} (b : List Event) (ha : wellFramed a = true) :
    commandTransfers (a ++ b) = commandTransfers a ++ commandTransfers b := by
  fun_induction wellFramed a with
  | case1 => rfl
  | case2 bytes answer rest ih | case3 bytes answer rest ih =>
    rw [Bool.and_eq_true] at ha
    simp [commandTransfers, ih ha.2]
  | case4 | case5 => cases ha
  | case6 _ rest ih | case7 _ rest ih | case8 _ rest ih => exact ih ha

@[simp] theorem hasResetEvent_append (a b : List Event) :
    hasResetEvent (a ++ b) = (hasResetEvent a || hasResetEvent b) :=
  List.any_append

/-! ### Framed events -/

/-- Events as the block produces them under configuration `c`: framed, with opcodes of the twelve, and with a reset-line
event only where `reset` allows one. -/
structure FramedEvents (c : Config) (reset : Prop) (ev : List Event) : Prop where
  framed : wellFramed ev = true
  opcodes : ∀ bytes ∈ commandTransfers ev, ∃ op ∈ c.opc.toList, bytes = [op]
  resets : hasResetEvent ev = true → reset

/-- A transfer the block makes: one of the twelve opcode bytes under `Command`, at least one byte under `Data`. -/
def Transfer.Legal (c : Config) : Transfer → Prop
  | (.command, bytes) => ∃ op ∈ c.opc.toList, bytes = [op]
  | (.data, bytes) => bytes ≠ []

section

variable {c : Config} {reset : Prop}

theorem FramedEvents.nil : FramedEvents c reset [] := ⟨rfl, nofun, nofun⟩

theorem FramedEvents.append {a b : List Event} (ha : FramedEvents c reset a) (hb : FramedEvents c reset b) :
    FramedEvents c reset (a ++ b) where
  framed := (wellFramed_append b ha.framed).trans hb.framed
  opcodes := by
    rw [commandTransfers_append b ha.framed]
    exact List.forall_mem_append.2 ⟨ha.opcodes, hb.opcodes⟩
  resets h := by
    rw [hasResetEvent_append, Bool.or_eq_true] at h
    exact h.elim ha.resets hb.resets

theorem FramedEvents.delay (d : Duration) : FramedEvents c reset [.delay d] := ⟨rfl, nofun, nofun⟩

theorem FramedEvents.busy (b : Bool) : FramedEvents c reset [.busy b] := ⟨rfl, nofun, nofun⟩

theorem FramedEvents.rst (level : ResetLevel) (h : reset) : FramedEvents c reset [.rst level] :=
  ⟨rfl, nofun, fun _ => h⟩

theorem FramedEvents.transfer {t : Transfer} (ht : t.Legal c) (answer : BusAnswer) :
    FramedEvents c reset [.mode t.1, .write t.2 answer] := by
  obtain ⟨_ | _, bytes⟩ := t
  · obtain ⟨op, hop, rfl⟩ := ht
    exact ⟨rfl, by simpa [commandTransfers] using hop, nofun⟩
  · exact ⟨by simpa [wellFramed, Transfer.Legal] using ht, nofun, nofun⟩

theorem FramedEvents.okEvents {ts : List Transfer} (h : ∀ t ∈ ts, t.Legal c) :
    FramedEvents c reset (okEvents ts) := by
  induction ts with
  | nil => exact .nil
  | cons t rest ih =>
    obtain ⟨ht, hrest⟩ := List.forall_mem_cons.1 h
    exact (FramedEvents.transfer ht .ok).append (ih hrest)

theorem FramedEvents.failEvents {ts : List Transfer} (h : ∀ t ∈ ts, t.Legal c) (n : Nat) :
    FramedEvents c reset (failEvents ts n) := by
  induction ts generalizing n with
  | nil => exact .nil
  | cons t rest ih =>
    obtain ⟨ht, hrest⟩ := List.forall_mem_cons.1 h
    cases n with
    | zero => exact .transfer ht .err
    | succ n => exact (FramedEvents.transfer ht .ok).append (ih hrest n)

theorem FramedEvents.waitEvents (k : Nat) : FramedEvents c reset (waitEvents k) := by
  induction k with
  | zero => exact .busy false
  | succ k ih => exact ((FramedEvents.busy true).append (.delay .poll)).append ih

theorem FramedEvents.timeoutEvents (n : Nat) : FramedEvents c reset (timeoutEvents n) := by
  fun_induction Machine.timeoutEvents n with
  | case1 => exact .nil
  | case2 => exact .busy true
  | case3 n ih => exact ((FramedEvents.busy true).append (.delay .poll)).append ih

theorem FramedEvents.pulseEvents (h : reset) : FramedEvents c reset pulseEvents :=
  ((FramedEvents.rst .asserted h).append (.delay .resetHold)).append ((FramedEvents.rst .deasserted h).append
    (.delay .resetSettle))

/-! ### Parts of a request that append framed events -/

/-- From `s` to `t` the trace grows by framed events. -/
def Emits (c : Config) (reset : Prop) (s t : State) : Prop :=
  ∃ ev, t.trace = s.trace ++ ev ∧ FramedEvents c reset ev

theorem Emits.of_trace_eq {s t : State} (h : t.trace = s.trace) : Emits c reset s t :=
  ⟨[], by simp [h], .nil⟩

theorem Emits.trans {s t u : State} (h : Emits c reset s t) (h' : Emits c reset t u) : Emits c reset s u := by
  obtain ⟨ev, ht, hev⟩ := h
  obtain ⟨ev', hu, hev'⟩ := h'
  exact ⟨ev ++ ev', by rw [hu, ht, List.append_assoc], hev.append hev'⟩

theorem Emits.andThen {s : State} {fl : Flow} {next : State → Flow} (h : Emits c reset s fl.last)
    (hn : ∀ t, Emits c reset t (next t).last) : Emits c reset s (fl.andThen next).last := by
  cases fl with
  | go t => exact h.trans (hn t)
  | stop k t => exact h

/-- The end of a request is no event (60_exceptions.md R178). -/
theorem Emits.finish {s : State} {fl : Flow} (h : Emits c reset s fl.last) : Emits c reset s fl.finish := by
  cases fl <;> exact h.trans (.of_trace_eq rfl)

theorem Emits.settle {s : State} {fl : Flow} (h : Emits c reset s fl.last) : Emits c reset s fl.settle := by
  cases fl with
  | go t => exact h
  | stop k t => exact h.trans (.of_trace_eq rfl)

theorem Emits.transferAll {ts : List Transfer} (h : ∀ t ∈ ts, t.Legal c) (s : State) :
    Emits c reset s (transferAll ts s).last := by
  rcases transferAll_cases ts s with ht | ⟨n, -, -, ht⟩ <;> rw [ht]
  · exact ⟨_, rfl, .okEvents h⟩
  · exact ⟨_, rfl, .failEvents h n⟩

theorem legal_transfersOf {op : Byte} (data : List Byte) (h : op ∈ c.opc.toList) :
    ∀ t ∈ transfersOf op data, t.Legal c := by
  intro t ht
  rw [transfersOf, List.mem_cons] at ht
  obtain rfl | ht := ht
  · exact ⟨op, h, rfl⟩
  · split at ht
    · cases ht
    · next hne =>
      obtain rfl := List.mem_singleton.1 ht
      exact hne

theorem Sendable.op_mem {d : Descriptor} (h : Sendable c d) : d.op ∈ c.opc.toList := by
  obtain ⟨i, he, -⟩ := h
  cases i with
  | init | setPixel | clear | update | sleep => cases he
  | _ =>
    obtain rfl := Encoded.cmd.inj he
    simp only [driverOutputControl, dataEntryMode, ramXRange, ramYRange, borderWaveform, tempSensor, updateCtrl1,
      updateCtrl2, masterActivation, writeRamBw, writeRamRed, deepSleep, opcodeOf_mem]

theorem Emits.send {d : Descriptor} (h : Sendable c d) (s : State) : Emits c reset s (send d s).last := by
  rw [send_eq_transferAll]
  exact .transferAll (legal_transfersOf d.data h.op_mem) s

theorem Emits.sendAll {ds : List Descriptor} (h : ∀ d ∈ ds, Sendable c d) (s : State) :
    Emits c reset s (sendAll ds s).last := by
  induction ds generalizing s with
  | nil => exact .of_trace_eq rfl
  | cons d rest ih =>
    obtain ⟨hd, hrest⟩ := List.forall_mem_cons.1 h
    exact (Emits.send hd s).andThen (ih hrest)

theorem Emits.waitIdle (s : State) : Emits c reset s (waitIdle s).last := by
  rcases idleAfter_or_stuck s with ⟨k, h⟩ | h
  · rw [waitIdle_idle h]
    exact ⟨_, rfl, .waitEvents k⟩
  · rw [waitIdle_stuck h]
    exact ⟨_, rfl, .timeoutEvents _⟩

theorem Emits.writeDrvState (st : DrvState) (s : State) : Emits c reset s (writeDrvState st s) := .of_trace_eq rfl

theorem Emits.resetPulse (h : reset) (s : State) : Emits c reset s (resetPulse s) := by
  rw [resetPulse_eq]
  exact ⟨_, rfl, .pulseEvents h⟩

end

/-! ### Instructions -/

theorem sendable_planeDescriptors {c : Config} {fb : Framebuffer} {planes : List Descriptor}
    (h : planeDescriptors c fb = .ok planes) : ∀ d ∈ planes, Sendable c d := by
  have bw : Sendable c (writeRamBw c (planeBytes c fb .bw)) := ⟨.writeRamBw _, rfl, planeBytes_length c fb .bw⟩
  cases hp : c.planes with
  | one =>
    simp only [planeDescriptors, planeDescriptor_bw, hp, Except.ok.injEq] at h
    subst h
    exact List.forall_mem_singleton.2 bw
  | two =>
    simp only [planeDescriptors, planeDescriptor_bw, planeDescriptor_red fb hp, hp, Except.ok.injEq] at h
    subst h
    have red : Sendable c (writeRamRed c (planeBytes c fb .red)) :=
      ⟨.writeRamRed _, rfl, hp, planeBytes_length c fb .red⟩
    exact List.forall_mem_cons.2 ⟨bw, List.forall_mem_singleton.2 red⟩

/-- What an UPDATE that is not refused can do: fail its state check, or run its body on the planes as they stand. -/
theorem exec_update_planes {mode : RefreshMode} {s t : State} (h : exec (.update mode) s = .next t) :
    t = ended (.err .invalidState) s ∨
      ∃ planes, planeDescriptors s.cfg s.fb = .ok planes ∧ t = (updateFlow mode planes s).finish := by
  change execUpdate mode s = .next t at h
  unfold execUpdate at h
  split at h
  · exact .inl (Host.Outcome.next.inj h).symm
  · split at h
    · next hp => exact .inr ⟨_, hp, (Host.Outcome.next.inj h).symm⟩
    · cases h

/-- `write_ram` answers whole allocated planes only (40_command_encoder.md R107). -/
theorem writeRam_ok_cases {c : Config} {p : PlaneId} {bytes : List Byte} {d : Descriptor}
    (h : writeRam c p bytes = .ok d) : planeAllocated c p = true ∧ bytes.length = planeLen c := by
  unfold writeRam at h
  split at h
  · cases h
  · next ha =>
    split at h
    · next hl => exact ⟨by simpa using ha, hl⟩
    · cases h

theorem runRamWrite_next_cases {p : PlaneId} {bytes : List Byte} {s t : State} (h : runRamWrite p bytes s = .next t) :
    planeAllocated s.cfg p = true ∧ bytes.length = planeLen s.cfg := by
  unfold runRamWrite at h
  split at h
  · next hd => exact writeRam_ok_cases hd
  · cases h

theorem writesWholePlane_of_exec {i : Instr} {s t : State} (h : exec i s = .next t) : WritesWholePlane s.cfg i := by
  cases i with
  | writeRamBw bytes => exact (runRamWrite_next_cases h).2
  | writeRamRed bytes =>
    obtain ⟨ha, hl⟩ := runRamWrite_next_cases h
    exact ⟨planeAllocated_red.1 ha, hl⟩
  | _ => trivial

/-- What a descriptor that is not refused does: the `Send` of its own encoding (20_memory.md R40). -/
theorem exec_descriptor_encode {i : Instr} {s t : State} (hi : isRequest i = false) (h : exec i s = .next t) :
    ∃ d, encode s.cfg i = .cmd d ∧ WritesWholePlane s.cfg i ∧ t = (send d s).settle := by
  have hp := writesWholePlane_of_exec h
  obtain ⟨d, he⟩ : ∃ d, encode s.cfg i = .cmd d := by
    cases i with
    | init | setPixel | clear | update | sleep => cases hi
    | _ => exact ⟨_, rfl⟩
  rw [exec_encode he hp] at h
  exact ⟨d, he, hp, (Host.Outcome.next.inj h).symm⟩

theorem initFlow_emits (s : State) {reset : Prop} (h : reset) : Emits s.cfg reset s (initFlow s).last :=
  (((Emits.resetPulse h s).trans (.waitIdle _)).andThen
    (.sendAll (sendable_initializationSequence s.cfg _ _ _))).andThen (.writeDrvState _)

theorem updateFlow_emits (mode : RefreshMode) {planes : List Descriptor} (s : State) (reset : Prop)
    (hp : ∀ d ∈ planes, Sendable s.cfg d) : Emits s.cfg reset s (updateFlow mode planes s).last := by
  unfold updateFlow
  split
  · exact .of_trace_eq rfl
  · next hwin =>
    exact ((((Emits.sendAll (sendable_setRamWindow hwin) s).andThen (.sendAll hp)).andThen
      (.sendAll (sendable_triggerUpdate s.cfg mode))).andThen
        fun t => (Emits.writeDrvState _ t).trans (.waitIdle _)).andThen (.writeDrvState _)

theorem sleepFlow_emits (s : State) (reset : Prop) : Emits s.cfg reset s (sleepFlow s).last :=
  (Emits.sendAll (sendable_sleepSequence s.cfg) s).andThen (.writeDrvState _)

/-- What every instruction does to the trace. -/
theorem exec_emits {i : Instr} {s t : State} (h : exec i s = .next t) : Emits s.cfg (i = .init) s t := by
  by_cases hd : Draws i
  · obtain ⟨r, fb, rfl⟩ := exec_draws hd h
    exact .of_trace_eq rfl
  cases hr : isRequest i with
  | false =>
    obtain ⟨d, he, hp, rfl⟩ := exec_descriptor_encode hr h
    exact (Emits.send ⟨i, he, hp⟩ s).settle
  | true =>
    cases i with
    | init =>
      rw [exec_init h]
      exact (initFlow_emits s rfl).finish
    | update mode =>
      obtain rfl | ⟨planes, hp, rfl⟩ := exec_update_planes h
      · exact .of_trace_eq rfl
      · exact (updateFlow_emits mode s _ (sendable_planeDescriptors hp)).finish
    | sleep =>
      obtain rfl | rfl := exec_sleep h
      · exact .of_trace_eq rfl
      · exact (sleepFlow_emits s _).finish
    | setPixel x y col => exact absurd (.inl ⟨x, y, col, rfl⟩) hd
    | clear col => exact absurd (.inr ⟨col, rfl⟩) hd
    | _ => cases hr

/-- Settles O38: an instruction is drawing, one `Send`, or pulses, waits and sends, and each appends framed events. -/
theorem traceIsWellFramed : Obligations.TraceIsWellFramed := by
  intro i s t h
  obtain ⟨ev, ht, hframed, hopcodes, hresets⟩ := exec_emits h
  exact ⟨ev, ht, hframed, hopcodes, hresets⟩

end Sys2Proof.Machine
end

section
/-! PROOFS. What is drawn before an UPDATE is what it transfers (spec/20_memory.md R51, 41_framebuffer.md R121,
42_display_driver.md R144). -/

namespace Sys2Proof.Machine

/-! ### The bytes of a plane after SET_PIXEL -/

theorem getElem_planeBytes (c : Config) (fb : Framebuffer) (p : PlaneId) {k : Nat}
    (hk : k < (planeBytes c fb p).length) : (planeBytes c fb p)[k] = fb.read p k := by
  simp [planeBytes]

/-- Drawing sets one byte of an allocated plane's bytes (41_framebuffer.md R125). -/
theorem planeBytes_drawn {c : Config} {fb : Framebuffer} {p : PlaneId} (hw : (fb.plane p).wf)
    (ha : planeAllocated c p = true) (i : Nat) (m : Byte) (col : Color) :
    planeBytes c (fb.mapAllocated c (drawnPlane i m col)) p =
      (planeBytes c fb p).set i (putBit (planeBit col p) m (fb.read p i)) := by
  refine List.ext_getElem (by simp [planeBytes_length]) fun k hk _ => ?_
  rw [getElem_planeBytes, List.getElem_set, getElem_planeBytes, Framebuffer.read, Framebuffer.plane_mapAllocated,
    if_pos ha, drawnPlane]
  split
  · next hki => rw [← hki, Memory.read_write_same _ hw, Framebuffer.read]
  · next hki => rw [Memory.read_write_other _ _ (Ne.symm hki), Framebuffer.read]

/-- Black has its bit in plane 0, Red in plane 1, White in none (41_framebuffer.md R121). -/
theorem planeBit_iff (col : Color) (p : PlaneId) :
    planeBit col p = true ↔ (p = .bw ∧ col = .black) ∨ (p = .red ∧ col = .red) := by
  cases col <;> cases p <;> decide

theorem putBit_planeBit (col : Color) (p : PlaneId) (m b : Byte) :
    putBit (planeBit col p) m b =
      if (p = .bw ∧ col = .black) ∨ (p = .red ∧ col = .red) then b ||| m else b &&& ~~~m := by
  simp only [putBit, planeBit_iff]

/-! ### The events of transfers -/

theorem okEvents_append (a b : List Transfer) : okEvents (a ++ b) = okEvents a ++ okEvents b := by
  induction a with
  | nil => rfl
  | cons t rest ih => simp [okEvents, ih]

theorem mem_commandTransfers_okEvents_append {bytes : List Byte} {ts : List Transfer} {ev : List Event} :
    bytes ∈ commandTransfers (okEvents ts ++ ev) ↔ (.command, bytes) ∈ ts ∨ bytes ∈ commandTransfers ev := by
  induction ts with
  | nil => simp [okEvents]
  | cons t rest ih =>
    obtain ⟨_ | _, data⟩ := t
    · simp [okEvents, commandTransfers, ih, or_assoc]
    · simp [okEvents, commandTransfers, ih]

theorem commandTransfers_waitEvents (k : Nat) : commandTransfers (waitEvents k) = [] := by
  induction k with
  | zero => rfl
  | succ k ih => simpa [waitEvents, commandTransfers] using ih

theorem transfersOf_of_ne_nil (op : Byte) {data : List Byte} (h : data ≠ []) :
    transfersOf op data = [(.command, [op]), (.data, data)] := by
  rw [transfersOf, if_neg h]

theorem command_mem_transfersOf {bytes data : List Byte} {op : Byte} :
    (.command, bytes) ∈ transfersOf op data ↔ bytes = [op] := by
  by_cases h : data = [] <;> simp [transfersOf, h]

/-- With pairwise different opcode bytes (00_scope.md R5), two commands never share one. -/
theorem opcodeOf_inj {o : Opcodes} (h : o.toList.Nodup) {k k' : Cmd} (hk : opcodeOf o k = opcodeOf o k') : k = k' := by
  have hcmd := commandOf_opcodeOf h k
  rw [hk, commandOf_opcodeOf h k'] at hcmd
  exact (Option.some.inj hcmd).symm

/-! ### UPDATE that ends with `Ok` -/

/-- What UPDATE puts on the bus before its planes: the window of the whole panel (42_display_driver.md R144). -/
def windowTransfers (c : Config) : List Transfer :=
  [ramXRange c (columnOf 0) (columnOf (c.width - 1)), ramYRange c (rowOf 0) (rowOf (c.height - 1))].flatMap
    fun d => transfersOf d.op d.data

/-- What UPDATE puts on the bus after its planes (40_command_encoder.md R108). -/
def triggerTransfers (c : Config) (mode : RefreshMode) : List Transfer :=
  (triggerUpdate c mode).flatMap fun d => transfersOf d.op d.data

theorem updateTransfers_parts (c : Config) (fb : Framebuffer) (mode : RefreshMode) :
    updateTransfers c fb mode = windowTransfers c ++ planeTransfers c fb ++ triggerTransfers c mode :=
  updateTransfers_eq c fb mode

/-- No opcode of UPDATE outside its planes is a RAM write's. -/
theorem ne_ramWrite_of_command_mem {c : Config} {mode : RefreshMode} {bytes : List Byte} (hn : c.opc.toList.Nodup)
    (h : (.command, bytes) ∈ windowTransfers c ++ triggerTransfers c mode) :
    bytes ≠ [c.opc.writeRamBw] ∧ bytes ≠ [c.opc.writeRamRed] := by
  have hk : ∃ k, bytes = [opcodeOf c.opc k] ∧ k ≠ .writeRamBw ∧ k ≠ .writeRamRed := by
    simp only [windowTransfers, triggerTransfers, triggerUpdate, List.flatMap_cons, List.flatMap_nil, List.mem_append,
      List.not_mem_nil, or_false, command_mem_transfersOf] at h
    obtain (rfl | rfl) | rfl | rfl := h
    · exact ⟨.ramXRange, rfl, by decide⟩
    · exact ⟨.ramYRange, rfl, by decide⟩
    · exact ⟨.updateCtrl2, rfl, by decide⟩
    · exact ⟨.masterActivation, rfl, by decide⟩
  obtain ⟨k, rfl, hbw, hred⟩ := hk
  exact ⟨fun he => hbw (opcodeOf_inj hn (List.singleton_inj.1 he)),
    fun he => hred (opcodeOf_inj hn (List.singleton_inj.1 he))⟩

/-- The state UPDATE leaves when it ends with `Ok`: every transfer answered, then a wait that saw the chip idle. -/
theorem exec_update_ok {s t : State} {mode : RefreshMode} (hw : s.cfg.WellFormed)
    (h : exec (.update mode) s = .next t) (hr : t.result = some .ok) :
    ∃ k, t = ended .ok (writeDrvState .ready (afterWait (k + 1) (waitEvents k)
      (writeDrvState .updating (afterTransfers (updateTransfers s.cfg s.fb mode) s)))) := by
  obtain ⟨hwidth, -, hheight, -, -, -⟩ := hw
  change execUpdate mode s = .next t at h
  cases hready : stateReady s with
  | false =>
    rw [execUpdate, if_pos hready] at h
    obtain rfl := Host.Outcome.next.inj h
    cases hr
  | true =>
    rw [execUpdate_eq mode hready hwidth hheight] at h
    obtain rfl := Host.Outcome.next.inj h
    rcases transferAll_cases (updateTransfers s.cfg s.fb mode) s with ht | ⟨n, -, -, ht⟩
    · rw [ht, Flow.go_andThen] at hr ⊢
      rcases idleAfter_or_stuck (writeDrvState .updating (afterTransfers (updateTransfers s.cfg s.fb mode) s)) with
        ⟨k, hk⟩ | hk
      · exact ⟨k, by rw [waitIdle_idle hk]; rfl⟩
      · rw [waitIdle_stuck hk] at hr
        cases hr
    · rw [ht] at hr
      cases hr

/-- SET_PIXEL that ends with `Ok` has drawn its pixel, inside the panel, in every allocated plane. -/
theorem exec_setPixel_ok {s t : State} {x y : Half} {col : Color} {loc : Nat × Byte}
    (hl : locate s.cfg (rotate s.cfg x.toNat y.toNat).1 (rotate s.cfg x.toNat y.toNat).2 = loc)
    (h : exec (.setPixel x y col) s = .next t) (hr : t.result = some .ok) :
    loc.1 < planeLen s.cfg ∧ t = ended .ok { s with fb := s.fb.mapAllocated s.cfg (drawnPlane loc.1 loc.2 col) } := by
  obtain ⟨k, rfl⟩ | ⟨px, py, fb, hrot, hpx, hpy, hs, rfl⟩ := exec_setPixel h
  · cases hr
  · rw [hrot] at hl
    subst hl
    have hlt := locate_lt hpx hpy
    rw [storePixel_eq_mapAllocated _ _ hlt] at hs
    obtain rfl := Except.ok.inj hs
    exact ⟨hlt, rfl⟩

/-- The plane transfers of a framebuffer with one more pixel drawn, written out. -/
theorem planeTransfers_drawn {c : Config} {fb : Framebuffer} (hw : ∀ p, (fb.plane p).wf) {i : Nat}
    (hi : i < planeLen c) (m : Byte) (col : Color) {drawn : PlaneId → List Byte}
    (hd : ∀ p, drawn p = (planeBytes c fb p).set i (putBit (planeBit col p) m (fb.read p i))) :
    planeTransfers c (fb.mapAllocated c (drawnPlane i m col)) =
      match c.planes with
      | .one => [(.command, [c.opc.writeRamBw]), (.data, drawn .bw)]
      | .two => [(.command, [c.opc.writeRamBw]), (.data, drawn .bw),
          (.command, [c.opc.writeRamRed]), (.data, drawn .red)] := by
  have hne : ∀ p, drawn p ≠ [] := fun p => by
    rw [← List.length_pos_iff, hd, List.length_set, planeBytes_length]
    omega
  have hbytes : ∀ p, planeAllocated c p = true →
      planeBytes c (fb.mapAllocated c (drawnPlane i m col)) p = drawn p := fun p ha => by
    rw [hd, planeBytes_drawn (hw p) ha]
  rw [planeTransfers, hbytes .bw rfl, transfersOf_of_ne_nil _ (hne .bw)]
  cases hp : c.planes with
  | one => rfl
  | two =>
    simp only [hbytes .red (planeAllocated_red.2 hp), transfersOf_of_ne_nil _ (hne .red)]
    rfl

/-- Settles O31: SET_PIXEL's stores set one byte of each plane, and UPDATE's transfers are its window, those planes and
its trigger. -/
theorem updateTransfersWhatWasDrawn : Obligations.UpdateTransfersWhatWasDrawn := by
  intro s t u x y col mode hwf hcfg hset htok hupd huok px loc drawn planes
  obtain ⟨hlt, rfl⟩ := exec_setPixel_ok (loc := loc) rfl hset htok
  obtain ⟨k, rfl⟩ := exec_update_ok (s := ended .ok { s with fb := _ }) hcfg hupd huok
  obtain ⟨-, -, -, -, -, hnodup⟩ := hcfg
  have hplanes : planeTransfers s.cfg (s.fb.mapAllocated s.cfg (drawnPlane loc.1 loc.2 col)) = planes :=
    planeTransfers_drawn hwf hlt loc.2 col fun p => by rw [putBit_planeBit]
  refine ⟨hlt, okEvents (windowTransfers s.cfg), okEvents (triggerTransfers s.cfg mode) ++ waitEvents k, ?_,
    fun bytes hb => ?_⟩
  · have htrace : okEvents (updateTransfers s.cfg (s.fb.mapAllocated s.cfg (drawnPlane loc.1 loc.2 col)) mode) =
        okEvents (windowTransfers s.cfg) ++ okEvents planes ++ okEvents (triggerTransfers s.cfg mode) := by
      rw [updateTransfers_parts, okEvents_append, okEvents_append, hplanes]
    simp [ended, afterWait, afterTransfers, htrace]
  · rw [← List.append_assoc, ← okEvents_append, mem_commandTransfers_okEvents_append,
      commandTransfers_waitEvents] at hb
    exact ne_ramWrite_of_command_mem hnodup (hb.resolve_right List.not_mem_nil)

end Sys2Proof.Machine
end

section
/-! PROOFS. The decoder and the encoder of both formats agree (spec/30_encoding.md R60 to R72), and what the decoder
refuses (R73, R74). -/

namespace Sys2Proof.Machine

/-! ### Requests -/

@[simp] theorem colorOfCode_colorCode (col : Color) : colorOfCode (colorCode col) = some col := by
  cases col <;> rfl

@[simp] theorem modeOfCode_modeCode (mode : RefreshMode) : modeOfCode (modeCode mode) = mode := by
  cases mode <;> rfl

/-- 3 is the one reserved colour code (30_encoding.md R63). -/
theorem colorOfCode_eq_none {b : BitVec 2} : colorOfCode b = none ↔ b = 3#2 := by
  revert b
  decide

theorem decodeRequest_encode {c : Config} {i : Instr} {r : Request} (he : encode c i = .req r) :
    decodeRequest r = .ok i := by
  cases i with
  | init | sleep =>
    obtain rfl := Encoded.req.inj he
    rfl
  | setPixel | clear | update =>
    obtain rfl := Encoded.req.inj he
    simp [decodeRequest]
  | _ => cases he

/-- Settles O6: one case per branch of the request decoder. -/
theorem reservedRequestsRefused : Obligations.ReservedRequestsRefused := by
  intro r
  have hcolor : r.color = 3#2 ↔ colorOfCode r.color = none := colorOfCode_eq_none.symm
  fun_cases decodeRequest r with
  | case1 h | case6 _ _ _ h | case7 _ _ _ _ h => simp [h]
  | case2 _ h col hcol | case3 _ h hcol | case4 _ _ h col hcol | case5 _ _ h hcol => simp [h, hcolor, hcol]
  | case8 h0 h1 h2 h3 h4 =>
    have hop : 5 ≤ r.op.toNat := by bv_omega
    simp [hop]

/-! ### Descriptors -/

/-- Data bytes of the length 30_encoding.md R68 gives their command decode, and to an instruction whose encoding is
exactly those bytes behind the command's opcode byte. -/
theorem decodeData_of_length {c : Config} {k : Cmd} {data : List Byte} (h : data.length = dataLength c k) :
    ∃ i, decodeData c k data = .ok i ∧ encode c i = .cmd ⟨opcodeOf c.opc k, data⟩ := by
  cases k with
  | masterActivation =>
    obtain rfl := List.length_eq_zero_iff.1 h
    exact ⟨_, rfl, rfl⟩
  | dataEntryMode | borderWaveform | tempSensor | updateCtrl2 | deepSleep =>
    obtain ⟨v, rfl⟩ := List.length_eq_one_iff.1 h
    exact ⟨_, rfl, rfl⟩
  | ramXRange | updateCtrl1 =>
    obtain ⟨a, b, rfl⟩ := List.length_eq_two.1 h
    exact ⟨_, rfl, rfl⟩
  | driverOutputControl =>
    obtain ⟨lo, hi, scan, rfl⟩ := List.length_eq_three.1 h
    exact ⟨_, rfl, by simp [encode, driverOutputControl]⟩
  | ramYRange =>
    obtain ⟨sl, sh, el, eh, rfl⟩ := List.length_eq_four.1 h
    exact ⟨_, rfl, by simp [encode, ramYRange]⟩
  | writeRamBw | writeRamRed => exact ⟨_, if_pos h, rfl⟩

theorem decodeData_of_length_ne {c : Config} {k : Cmd} {data : List Byte} (h : data.length ≠ dataLength c k) :
    decodeData c k data = .error (.wrongDataLength k) := by
  fun_cases decodeData c k data with
  | case19 _ hl | case21 _ hl => exact absurd hl h
  | case1 | case3 | case5 | case7 | case9 | case11 | case13 | case15 | case17 | case23 => exact absurd rfl h
  | _ => rfl

/-- Only data bytes of the command's length decode, and the encoding gives them back. -/
theorem decodeData_ok {c : Config} {k : Cmd} {data : List Byte} {i : Instr} (h : decodeData c k data = .ok i) :
    data.length = dataLength c k ∧ encode c i = .cmd ⟨opcodeOf c.opc k, data⟩ := by
  by_cases hl : data.length = dataLength c k
  · obtain ⟨j, hj, he⟩ := decodeData_of_length hl
    obtain rfl := Except.ok.inj (hj.symm.trans h)
    exact ⟨hl, he⟩
  · cases (decodeData_of_length_ne hl).symm.trans h

/-- A descriptor that decodes has a command's opcode byte, and the command's data decodes (30_encoding.md R67). -/
theorem decodeDescriptor_ok {c : Config} {d : Descriptor} {i : Instr} (h : decodeDescriptor c d = .ok i) :
    ∃ k, opcodeOf c.opc k = d.op ∧ decodeData c k d.data = .ok i := by
  unfold decodeDescriptor at h
  split at h
  · next k hk => exact ⟨k, opcodeOf_of_commandOf hk, h⟩
  · cases h

theorem decodeDescriptor_ok_iff {c : Config} {d : Descriptor} (hw : c.WellFormed) :
    (∃ i, decodeDescriptor c d = .ok i) ↔ ∃ k, opcodeOf c.opc k = d.op ∧ dataLength c k = d.data.length := by
  constructor
  · rintro ⟨i, h⟩
    obtain ⟨k, hop, hdata⟩ := decodeDescriptor_ok h
    exact ⟨k, hop, (decodeData_ok hdata).1.symm⟩
  · obtain ⟨op, data⟩ := d
    rintro ⟨k, rfl, hl⟩
    obtain ⟨i, hi, -⟩ := decodeData_of_length hl.symm
    exact ⟨i, (decodeDescriptor_opcodeOf hw k data).trans hi⟩

theorem mem_allCommands (k : Cmd) : k ∈ allCommands := by
  cases k <;> decide

/-- Settles O5: the command comes from the opcode byte, and its data bytes are the encoding's. -/
theorem descriptorsHaveOneMeaning : Obligations.DescriptorsHaveOneMeaning := by
  intro c d i h
  obtain ⟨k, hop, hdata⟩ := decodeDescriptor_ok h
  rw [(decodeData_ok hdata).2, hop]

/-- Settles O7: the table is the opcode byte and the data length of each of the twelve commands. -/
theorem descriptorsAcceptedExactly : Obligations.DescriptorsAcceptedExactly := by
  intro c d hw
  change _ ↔ (d.op, d.data.length) ∈ allCommands.map fun k => (opcodeOf c.opc k, dataLength c k)
  simp only [decodeDescriptor_ok_iff hw, List.mem_map, mem_allCommands, true_and, Prod.mk.injEq]

/-- Settles O4: a request decodes by its operation code, a descriptor by its opcode byte; a red RAM write decodes on a
one-plane block too, where only its execution is refused. -/
theorem decodeEncodeRoundTrip : Obligations.DecodeEncodeRoundTrip := by
  intro c i hw hlen
  cases i with
  | init | setPixel | clear | update | sleep => exact decodeRequest_encode (c := c) rfl
  | writeRamBw bytes => exact decodeDescriptor_encode hw rfl (hlen bytes (.inl rfl))
  | writeRamRed bytes =>
    exact (decodeDescriptor_opcodeOf hw .writeRamRed bytes).trans (if_pos (hlen bytes (.inr rfl)))
  | _ => exact decodeDescriptor_encode hw rfl trivial

end Sys2Proof.Machine
end

section
/-! PROOFS. The planes `as_bytes` and `write_ram` take, and the ones they refuse (spec/30_encoding.md R73,
40_command_encoder.md R107, 41_framebuffer.md R127). -/

namespace Sys2Proof.Machine

theorem planeAllocated_iff {c : Config} {p : PlaneId} : planeAllocated c p = true ↔ p = .bw ∨ c.planes = .two := by
  cases p with
  | bw => simp [planeAllocated]
  | red => simp [planeAllocated_red]

theorem getElem?_planeBytes {c : Config} (fb : Framebuffer) (p : PlaneId) {i : Nat} (hi : i < planeLen c) :
    (planeBytes c fb p)[i]? = some (fb.read p i) := by
  have hlt : i < (planeBytes c fb p).length := (planeBytes_length c fb p).symm ▸ hi
  rw [List.getElem?_eq_getElem hlt, getElem_planeBytes]

theorem asBytes_allocated {c : Config} (fb : Framebuffer) {p : PlaneId} (h : planeAllocated c p = true) :
    asBytes c fb p = .ok (planeBytes c fb p) :=
  if_pos h

theorem asBytes_not_allocated {c : Config} (fb : Framebuffer) {p : PlaneId} (h : planeAllocated c p = false) :
    asBytes c fb p = .error (.planeNotAllocated p) := by
  simp [asBytes_eq, h]

theorem writeRam_not_allocated {c : Config} {p : PlaneId} (bytes : List Byte) (h : planeAllocated c p = false) :
    writeRam c p bytes = .error (.planeNotAllocated p) :=
  if_pos h

theorem writeRam_wrong_length {c : Config} {p : PlaneId} {bytes : List Byte} (ha : planeAllocated c p = true)
    (hl : bytes.length ≠ planeLen c) : writeRam c p bytes = .error (.wrongPlaneLength p) := by
  simp [writeRam, ha, hl]

/-- Settles O50: one clause per outcome of the two plane functions. -/
theorem planeAccessNeedsAllocatedPlane : Obligations.PlaneAccessNeedsAllocatedPlane := by
  refine fun c fb => ⟨fun p hp => ?_, fun hone => ?_, fun p bytes hp hl => ?_⟩
  · exact ⟨_, asBytes_allocated fb (planeAllocated_iff.2 hp), planeBytes_length c fb p,
      fun _ => getElem?_planeBytes fb p⟩
  · have hna : planeAllocated c .red = false := by simp [planeAllocated, hone]
    exact ⟨asBytes_not_allocated fb hna, fun bytes => writeRam_not_allocated bytes hna⟩
  · exact writeRam_wrong_length (planeAllocated_iff.2 hp) hl

end Sys2Proof.Machine
end

section
/-! PROOFS. Every step keeps the trace framed (spec/20_memory.md R40, 30_encoding.md R67, R74). -/

namespace Sys2Proof.Machine

/-! ### The events a step appends -/

theorem performPoll_emits (rest : List Task) (s : State) (reset : Prop) :
    Emits s.cfg reset s (performPoll rest s) := by
  cases hb : s.busyAt 0 with
  | false =>
    rw [performPoll_not_busy rest hb]
    exact ⟨_, rfl, .busy _⟩
  | true =>
    rw [performPoll_busy rest hb]
    split <;> exact ⟨_, rfl, .busy _⟩

/-- A primitive appends at most one event, and no transfer. -/
theorem performPrim_emits (p : Prim) (rest : List Task) (s : State) : Emits s.cfg True s (performPrim p rest s) := by
  cases p with
  | rstAssert | rstDeassert => exact ⟨_, rfl, .rst _ trivial⟩
  | delay d => exact ⟨_, rfl, .delay d⟩
  | pollStart | writeDrv => exact .of_trace_eq rfl
  | poll => exact performPoll_emits rest s True

/-- Taking the next instruction is no event. -/
theorem fetch_instruction_trace {e : Encoded} {s t : State} (h : fetch s = .instruction e t) :
    t.cfg = s.cfg ∧ t.trace = s.trace := by
  obtain ⟨-, r, rest, rfl⟩ | ⟨rest, rfl⟩ := fetch_instruction h <;> exact ⟨rfl, rfl⟩

/-- What every step does to the trace. -/
theorem step_emits {s t : State} (h : step s = .next t) : ∃ reset, Emits s.cfg reset s t := by
  obtain rfl | hf | ⟨e, u, i, hf, he⟩ := step_cases h
  · exact ⟨True, .of_trace_eq rfl⟩
  · obtain rfl | ⟨p, rest, rfl⟩ := fetch_performed hf
    · exact ⟨True, .of_trace_eq rfl⟩
    · exact ⟨True, performPrim_emits p rest s⟩
  · obtain ⟨hcfg, htrace⟩ := fetch_instruction_trace hf
    exact ⟨i = .init, .trans (.of_trace_eq htrace) (hcfg ▸ exec_emits he)⟩

/-! ### The invariant of the trace -/

/-- Framed events behind a framed trace leave a framed trace. -/
theorem State.TraceInv.of_emits {s t : State} {reset : Prop} (hs : s.TraceInv) (hcfg : t.cfg = s.cfg)
    (h : Emits s.cfg reset s t) : t.TraceInv := by
  obtain ⟨ev, ht, hev⟩ := h
  constructor
  · rw [ht, wellFramed_append ev hs.framed]
    exact hev.framed
  · rw [ht, hcfg, commandTransfers_append ev hs.framed]
    exact List.forall_mem_append.2 ⟨hs.opcodes, hev.opcodes⟩

/-- Settles O52: what a step appends is framed, and the opcode bytes stay the configuration's. -/
theorem everyStepKeepsTraceFramed : Obligations.EveryStepKeepsTraceFramed := by
  intro s t hs h
  obtain ⟨reset, he⟩ := step_emits h
  exact hs.of_emits (step_keeps_cfg h) he

end Sys2Proof.Machine
end

section
/-! PROOFS. The encoder functions that take no rectangle build the descriptors of the tables
(spec/40_command_encoder.md R103 to R105, R107 to R109). -/

namespace Sys2Proof.Machine

/-! ### Descriptors that carry row numbers -/

theorem driverOutputControl_rowOf (c : Config) (y : Nat) (scan : Byte) :
    driverOutputControl c (rowOf y) scan =
      ⟨c.opc.driverOutput, [BitVec.ofNat 8 y, BitVec.ofNat 8 (y / 256), scan]⟩ := by
  rw [driverOutputControl, lo8_rowOf, hi8_rowOf, opcodeOf]

theorem ramYRange_rowOf (c : Config) (y0 y1 : Nat) :
    ramYRange c (rowOf y0) (rowOf y1) =
      ⟨c.opc.ramYRange, [BitVec.ofNat 8 y0, BitVec.ofNat 8 (y0 / 256), BitVec.ofNat 8 y1,
        BitVec.ofNat 8 (y1 / 256)]⟩ := by
  rw [ramYRange, lo8_rowOf, hi8_rowOf, lo8_rowOf, hi8_rowOf, opcodeOf]

/-! ### The sequences -/

/-- The boot sequence as the tables list it: only its two row numbers are split into bytes, and the first column is
byte column 0 (30_encoding.md R69 to R71). -/
theorem initializationSequence_eq (c : Config) (w h : Nat) (rot : Rotation) :
    initializationSequence c w h rot =
      [⟨c.opc.driverOutput, [BitVec.ofNat 8 (h - 1), BitVec.ofNat 8 ((h - 1) / 256), c.val.gateScan]⟩,
        ⟨c.opc.dataEntry, [c.val.dataEntry]⟩,
        ⟨c.opc.ramXRange, [0x00#8, BitVec.ofNat 8 ((w - 1) / 8)]⟩,
        ⟨c.opc.ramYRange, [0x00#8, 0x00#8, BitVec.ofNat 8 (h - 1), BitVec.ofNat 8 ((h - 1) / 256)]⟩,
        ⟨c.opc.borderWaveform, [c.val.border]⟩, ⟨c.opc.tempSensor, [c.val.tempSensor]⟩,
        ⟨c.opc.updateCtrl1, [c.val.updateCtrl1A, c.val.updateCtrl1B]⟩] := by
  rw [initializationSequence, driverOutputControl_rowOf, ramYRange_rowOf]
  rfl

theorem triggerUpdate_eq (c : Config) (mode : RefreshMode) :
    triggerUpdate c mode = [⟨c.opc.updateCtrl2, [updateSelection c mode]⟩, ⟨c.opc.masterActivation, []⟩] :=
  rfl

theorem sleepSequence_eq (c : Config) : sleepSequence c = [⟨c.opc.deepSleep, [c.val.deepSleep]⟩] :=
  rfl

/-- Settles O44: one equation per encoder function; a whole allocated plane passes `write_ram`'s two checks. -/
theorem encoderBuildsTheTables : Obligations.EncoderBuildsTheTables := by
  refine fun c w h rot => ⟨initializationSequence_eq c w h rot, fun bytes hlen => ?_,
    triggerUpdate_eq c .fullRefresh, triggerUpdate_eq c .partialRefresh, sleepSequence_eq c⟩
  exact ⟨writeRam_bw hlen, fun htwo => writeRam_red htwo hlen⟩

end Sys2Proof.Machine
end

section
/-! PROOFS. The rotation (spec/41_framebuffer.md R122, R123) and the colour read back at a coordinate (R121, R128). -/

namespace Sys2Proof.Machine

/-! ### The rotation has an inverse -/

/-- Physical to logical coordinates, the inverse of `rot`: `R0` and `R180` are their own inverses, `R90` and `R270`
each other's (41_framebuffer.md R123). -/
def unrotate (c : Config) (px py : Nat) : Nat × Nat :=
  match c.rot with
  | .r0 => (px, py)
  | .r90 => (py, c.width - 1 - px)
  | .r180 => (c.width - 1 - px, c.height - 1 - py)
  | .r270 => (c.height - 1 - py, px)

theorem unrotate_lt {c : Config} {px py : Nat} (hx : px < c.width) (hy : py < c.height) :
    (unrotate c px py).1 < logicalWidth c ∧ (unrotate c px py).2 < logicalHeight c := by
  cases h : c.rot <;> simp only [unrotate, logicalWidth, logicalHeight, h] <;> omega

theorem rotate_unrotate {c : Config} {px py : Nat} (hx : px < c.width) (hy : py < c.height) :
    rotate c (unrotate c px py).1 (unrotate c px py).2 = (px, py) := by
  cases h : c.rot <;> simp only [rotate, unrotate, h, Prod.mk.injEq, and_true, true_and] <;> omega

theorem unrotate_rotate {c : Config} {x y : Nat} (hx : x < logicalWidth c) (hy : y < logicalHeight c) :
    unrotate c (rotate c x y).1 (rotate c x y).2 = (x, y) := by
  cases h : c.rot <;> simp only [logicalWidth, logicalHeight, h] at hx hy <;>
    simp only [rotate, unrotate, h, Prod.mk.injEq, and_true, true_and] <;> omega

theorem rotate_inj {c : Config} {x y x' y' : Nat} (hx : x < logicalWidth c) (hy : y < logicalHeight c)
    (hx' : x' < logicalWidth c) (hy' : y' < logicalHeight c) (h : rotate c x y = rotate c x' y') :
    (x, y) = (x', y') := by
  rw [← unrotate_rotate hx hy, h, unrotate_rotate hx' hy']

/-- Settles O15: `unrotate` inverts the rotation on both sides. -/
theorem rotationIsBijection : Obligations.RotationIsBijection := by
  refine fun c => ⟨fun _ _ => rfl, fun _ _ => rotate_lt, fun x y x' y' hx hy hx' hy' h => ?_,
    fun px py hx hy => ?_⟩
  · exact Prod.mk.inj (rotate_inj hx hy hx' hy' h)
  · exact ⟨_, _, (unrotate_lt hx hy).1, (unrotate_lt hx hy).2, rotate_unrotate hx hy⟩

/-! ### The stored pair and its colour -/

/-- The three encodings are distinct, and (1, 1) is none of them (41_framebuffer.md R121). -/
theorem colorOfBits_eq_some_iff {b0 b1 : Bool} {col : Color} :
    colorOfBits b0 b1 = some col ↔ b0 = planeBit col .bw ∧ b1 = planeBit col .red := by
  cases b0 <;> cases b1 <;> cases col <;> decide

theorem planeBit_bw (col : Color) : planeBit col .bw = decide (col = .black) := by
  cases col <;> rfl

theorem planeBit_red (col : Color) : planeBit col .red = decide (col = .red) := by
  cases col <;> rfl

theorem forall_plane_iff {P : PlaneId → Prop} : (∀ p, P p) ↔ P .bw ∧ P .red := by
  refine ⟨fun h => ⟨h .bw, h .red⟩, fun ⟨hbw, hred⟩ p => ?_⟩
  cases p with
  | bw => exact hbw
  | red => exact hred

/-- Where `get_pixel` is defined, the colour read is the one whose bit every plane holds, a plane that does not exist
holding 0 (41_framebuffer.md R128). -/
theorem getPixel_eq_some_iff {c : Config} (fb : Framebuffer) {x y : Nat} (hx : x < logicalWidth c)
    (hy : y < logicalHeight c) (col : Color) :
    getPixel c fb x y = some col ↔
      ∀ p, (planeAllocated c p && pixelBit c fb p (rotate c x y).1 (rotate c x y).2) = planeBit col p := by
  have hbw : planeAllocated c .bw = true := rfl
  rw [getPixel, if_pos ⟨hx, hy⟩, colorOfBits_eq_some_iff, forall_plane_iff, hbw, Bool.true_and]

theorem getPixel_outside {c : Config} (fb : Framebuffer) {x y : Nat} (h : logicalWidth c ≤ x ∨ logicalHeight c ≤ y) :
    getPixel c fb x y = none :=
  if_neg (by omega)

/-- `get_pixel` reads no more of the framebuffer than the pixel's bit in each allocated plane. -/
theorem getPixel_congr {c : Config} {fb fb' : Framebuffer} {x y : Nat}
    (h : ∀ p, pixelBit c fb p (rotate c x y).1 (rotate c x y).2 =
      pixelBit c fb' p (rotate c x y).1 (rotate c x y).2) : getPixel c fb x y = getPixel c fb' x y := by
  simp only [getPixel, h]

/-- Settles O51: on one plane the missing plane's bit is 0, which says that the colour is not `Red`. -/
theorem getPixelReadsTheStoredPair : Obligations.GetPixelReadsTheStoredPair := by
  refine fun c fb x y => ⟨fun hx hy col => ?_, getPixel_outside fb⟩
  rw [getPixel_eq_some_iff fb hx hy, forall_plane_iff, planeBit_bw, planeBit_red]
  cases hp : c.planes <;> simp [planeAllocated, hp, eq_comm]

end Sys2Proof.Machine
end

section
/-! PROOFS. SET_PIXEL (spec/41_framebuffer.md R125): what it does under each of its checks, the byte it writes, and the
colours that are read back after it (R128). -/

namespace Sys2Proof.Machine

/-! ### The outcomes of SET_PIXEL -/

theorem colorSupported_iff {c : Config} {col : Color} :
    colorSupported c col = true ↔ ¬ (col = .red ∧ c.planes = .one) := by
  cases col <;> cases h : c.planes <;> simp [colorSupported, h]

/-- A supported colour has no bit for a plane that does not exist (41_framebuffer.md R121). -/
theorem planeBit_of_not_allocated {c : Config} {col : Color} {p : PlaneId} (hc : colorSupported c col = true)
    (hp : planeAllocated c p = false) : planeBit col p = false := by
  cases p with
  | bw => cases hp
  | red =>
    have hone : c.planes = .one := by cases h : c.planes <;> simp [planeAllocated, h] at hp ⊢
    rw [planeBit_red, decide_eq_false_iff_not]
    exact fun hred => colorSupported_iff.1 hc ⟨hred, hone⟩

/-- The framebuffer after SET_PIXEL of `col` at physical pixel (`px`, `py`). -/
def Framebuffer.drawPixel (c : Config) (px py : Nat) (col : Color) (fb : Framebuffer) : Framebuffer :=
  fb.mapAllocated c (drawnPlane (locate c px py).1 (locate c px py).2 col)

theorem exec_setPixel_unsupported {s : State} (x y : Half) {col : Color} (h : colorSupported s.cfg col = false) :
    exec (.setPixel x y col) s = .next (ended (.err .unsupportedColor) s) :=
  if_pos h

theorem exec_setPixel_outOfBounds {s : State} {x y : Half} {col : Color} (hc : colorSupported s.cfg col = true)
    (hb : inBounds s.cfg x.toNat y.toNat = false) :
    exec (.setPixel x y col) s = .next (ended (.err .outOfBounds) s) := by
  change execSetPixel x y col s = _
  rw [execSetPixel, if_neg (by simp [hc]), if_pos hb]
  rfl

theorem exec_setPixel_inBounds {s : State} {x y : Half} {col : Color} (hc : colorSupported s.cfg col = true)
    (hb : inBounds s.cfg x.toNat y.toNat = true) :
    exec (.setPixel x y col) s = .next (ended .ok { s with
      fb := s.fb.drawPixel s.cfg (rotate s.cfg x.toNat y.toNat).1 (rotate s.cfg x.toNat y.toNat).2 col }) := by
  change execSetPixel x y col s = _
  rw [execSetPixel, if_neg (by simp [hc]), if_neg (by simp [hb])]
  simp only [storePixel_eq_mapAllocated _ _ (pixel_lt_planeLen hb)]
  rfl

/-- SET_PIXEL ends with `Ok` only past both of its checks. -/
theorem checks_of_exec_setPixel_ok {s t : State} {x y : Half} {col : Color}
    (h : exec (.setPixel x y col) s = .next t) (hr : t.result = some .ok) :
    colorSupported s.cfg col = true ∧ inBounds s.cfg x.toNat y.toNat = true := by
  cases hc : colorSupported s.cfg col with
  | false =>
    rw [exec_setPixel_unsupported x y hc] at h
    cases h
    cases hr
  | true =>
    cases hb : inBounds s.cfg x.toNat y.toNat with
    | false =>
      rw [exec_setPixel_outOfBounds hc hb] at h
      cases h
      cases hr
    | true => exact ⟨rfl, rfl⟩

/-! ### The byte SET_PIXEL writes -/

theorem Framebuffer.read_mapAllocated (c : Config) (f : PlaneId → Memory → Memory) (fb : Framebuffer) (p : PlaneId)
    (i : Nat) :
    (fb.mapAllocated c f).read p i = if planeAllocated c p = true then (f p (fb.plane p)).read i else fb.read p i := by
  rw [Framebuffer.read, Framebuffer.plane_mapAllocated]
  split <;> rfl

/-- Every byte after SET_PIXEL: one byte of each allocated plane has the mask's bit put. -/
theorem Framebuffer.read_drawPixel {fb : Framebuffer} (hw : ∀ p, (fb.plane p).wf) (c : Config) (px py : Nat)
    (col : Color) (p : PlaneId) (j : Nat) :
    (fb.drawPixel c px py col).read p j =
      if planeAllocated c p = true ∧ j = (locate c px py).1 then
        putBit (planeBit col p) (locate c px py).2 (fb.read p j)
      else fb.read p j := by
  rw [drawPixel, read_mapAllocated, ite_and]
  congr 1
  rw [drawnPlane]
  split
  · next hj => rw [hj, Memory.read_write_same _ (hw p), read]
  · next hj => rw [Memory.read_write_other _ _ hj, read]

/-- Settles O17: past the two checks the stores are one put bit per allocated plane. -/
theorem setPixelWritesOneBit : Obligations.SetPixelWritesOneBit := by
  intro s x y col hw hcol hx hy
  refine ⟨_, exec_setPixel_inBounds (colorSupported_iff.2 hcol) (inBounds_iff.2 ⟨hx, hy⟩), fun p j => ?_⟩
  rw [Framebuffer.read_drawPixel hw, putBit_planeBit]

/-! ### The pixels read back -/

/-- Pixels of the panel that share a byte and a column of it are one pixel (20_memory.md R31). -/
theorem pixel_eq_of_locate_eq {c : Config} {px py px' py' : Nat} (hx : px < c.width) (hx' : px' < c.width)
    (hi : (locate c px' py').1 = (locate c px py).1) (hbit : px' % 8 = px % 8) : (px', py') = (px, py) := by
  have hlt := div_eight_lt_bpr hx
  have hlt' := div_eight_lt_bpr hx'
  have hcol : px' / 8 = px / 8 := by
    simpa [locate, Nat.mul_add_mod_self_right, Nat.mod_eq_of_lt, hlt, hlt'] using congrArg (· % bpr c) hi
  have hrow : py' = py := by
    have hmul : py' * bpr c = py * bpr c := by simpa [locate, hcol] using hi
    exact Nat.eq_of_mul_eq_mul_right (by omega) hmul
  rw [hrow, ← Nat.div_add_mod px' 8, hcol, hbit, Nat.div_add_mod]

/-- The stored bit of every panel pixel after SET_PIXEL: the drawn pixel's is the colour's, the others are kept. -/
theorem pixelBit_drawPixel {c : Config} {fb : Framebuffer} (hw : ∀ p, (fb.plane p).wf) {px py px' py' : Nat}
    (hx : px < c.width) (hx' : px' < c.width) (col : Color) (p : PlaneId) :
    pixelBit c (fb.drawPixel c px py col) p px' py' =
      if planeAllocated c p = true ∧ (px', py') = (px, py) then planeBit col p else pixelBit c fb p px' py' := by
  have hmask : (locate c px py).2.getLsbD (7 - px' % 8) = true ↔ px' % 8 = px % 8 := by
    rw [getLsbD_locate_mask]
    omega
  have hsame : (locate c px' py').1 = (locate c px py).1 ∧ px' % 8 = px % 8 ↔ (px', py') = (px, py) := by
    refine ⟨fun h => pixel_eq_of_locate_eq hx hx' h.1 h.2, fun h => ?_⟩
    obtain ⟨rfl, rfl⟩ := Prod.mk.inj h
    exact ⟨rfl, rfl⟩
  rw [pixelBit_eq_getLsbD, pixelBit_eq_getLsbD, Framebuffer.drawPixel, Framebuffer.read_mapAllocated, ite_and]
  split
  · simp only [read_drawnPlane (hw p), hmask, hsame, Framebuffer.read]
  · rfl

theorem getPixel_drawPixel_same {c : Config} {fb : Framebuffer} (hw : ∀ p, (fb.plane p).wf) {x y : Nat} {col : Color}
    (hc : colorSupported c col = true) (hx : x < logicalWidth c) (hy : y < logicalHeight c) :
    getPixel c (fb.drawPixel c (rotate c x y).1 (rotate c x y).2 col) x y = some col := by
  have hpx := (rotate_lt hx hy).1
  refine (getPixel_eq_some_iff _ hx hy col).2 fun p => ?_
  rw [pixelBit_drawPixel hw hpx hpx]
  cases hp : planeAllocated c p with
  | false => exact (planeBit_of_not_allocated hc hp).symm
  | true => simp

theorem getPixel_drawPixel_other {c : Config} {fb : Framebuffer} (hw : ∀ p, (fb.plane p).wf) {x y x' y' : Nat}
    (col : Color) (hx : x < logicalWidth c) (hy : y < logicalHeight c) (hx' : x' < logicalWidth c)
    (hy' : y' < logicalHeight c) (hne : (x', y') ≠ (x, y)) :
    getPixel c (fb.drawPixel c (rotate c x y).1 (rotate c x y).2 col) x' y' = getPixel c fb x' y' := by
  refine getPixel_congr fun p => ?_
  rw [pixelBit_drawPixel hw (rotate_lt hx hy).1 (rotate_lt hx' hy').1, if_neg]
  exact fun h => hne (rotate_inj hx' hy' hx hy h.2)

/-- Settles O18: `Ok` means both checks passed; the rotation tells the other pixels' bits apart from the drawn one. -/
theorem setPixelReadsBack : Obligations.SetPixelReadsBack := by
  intro s t x y col hw h hr
  obtain ⟨hc, hb⟩ := checks_of_exec_setPixel_ok h hr
  obtain rfl := Host.Outcome.next.inj ((exec_setPixel_inBounds hc hb).symm.trans h)
  obtain ⟨hx, hy⟩ := inBounds_iff.1 hb
  exact ⟨getPixel_drawPixel_same hw hc hx hy,
    fun x' y' hx' hy' hne => getPixel_drawPixel_other hw col hx hy hx' hy' hne⟩

end Sys2Proof.Machine
end

section
/-! PROOFS. CLEAR (spec/41_framebuffer.md R126): what it does under its check, the bits of every byte it writes, and the
colours that are read back after it (R128). -/

namespace Sys2Proof.Machine

/-! ### The outcomes of CLEAR -/

/-- The framebuffer after CLEAR of `col`. -/
def Framebuffer.clearTo (c : Config) (col : Color) (fb : Framebuffer) : Framebuffer :=
  fb.mapAllocated c (filledPlane c col)

theorem exec_clear_unsupported {s : State} {col : Color} (h : colorSupported s.cfg col = false) :
    exec (.clear col) s = .next (ended (.err .unsupportedColor) s) :=
  if_pos h

theorem exec_clear_supported {s : State} {col : Color} (hc : colorSupported s.cfg col = true) :
    exec (.clear col) s = .next (ended .ok { s with fb := s.fb.clearTo s.cfg col }) := by
  change execClear col s = _
  rw [execClear, if_neg (by simp [hc]), storeFill_eq_mapAllocated]
  rfl

theorem supported_of_exec_clear_ok {s t : State} {col : Color} (h : exec (.clear col) s = .next t)
    (hr : t.result = some .ok) : colorSupported s.cfg col = true := by
  cases hc : colorSupported s.cfg col with
  | false =>
    rw [exec_clear_unsupported hc] at h
    cases h
    cases hr
  | true => rfl

/-! ### The bits CLEAR writes -/

theorem getLsbD_ones {j : Nat} (hj : j < 8) : (0xFF#8).getLsbD j = true := by
  have hones : (0xFF#8) = BitVec.allOnes 8 := by decide
  rw [hones, BitVec.getLsbD_allOnes, decide_eq_true hj]

/-- The in-width bits of a row's last byte are its top `W % 8` bits, or all of them (41_framebuffer.md R126). -/
theorem getLsbD_lastByteMask (c : Config) {j : Nat} (hj : j < 8) :
    (lastByteMask c).getLsbD j = decide (c.width % 8 = 0 ∨ 8 - c.width % 8 ≤ j) := by
  by_cases hw : c.width % 8 = 0
  · rw [lastByteMask, if_pos hw, getLsbD_ones hj]
    simp [hw]
  · rw [lastByteMask, if_neg hw, BitVec.getLsbD_shiftLeft, getLsbD_ones (by omega), Bool.eq_iff_iff]
    simp [hj, hw]

/-- A byte CLEAR writes has the colour's bit in the columns inside the width, and 0 in the padding (R126, 10_state.md
R15). -/
theorem getLsbD_fillByte {c : Config} (bit : Bool) {column j : Nat} (hcol : column < bpr c) (hj : j < 8) :
    (fillByte c bit column).getLsbD j = (bit && decide (column * 8 + (7 - j) < c.width)) := by
  rw [bpr] at hcol
  cases bit with
  | false => simp [fillByte]
  | true =>
    by_cases hlast : column = bpr c - 1
    · rw [fillByte, if_pos rfl, if_pos hlast, getLsbD_lastByteMask c hj, Bool.true_and, decide_eq_decide]
      rw [bpr] at hlast
      omega
    · rw [fillByte, if_pos rfl, if_neg hlast, getLsbD_ones hj, Bool.true_and, eq_comm, decide_eq_true_eq]
      rw [bpr] at hlast
      omega

/-- The bits of every byte of an allocated plane after CLEAR. -/
theorem getLsbD_read_clearTo {c : Config} {fb : Framebuffer} {p : PlaneId} (hw : (fb.plane p).wf) (col : Color)
    (hp : planeAllocated c p = true) {row column j : Nat} (hrow : row < c.height) (hcol : column < bpr c)
    (hj : j < 8) :
    ((fb.clearTo c col).read p (row * bpr c + column)).getLsbD j =
      (planeBit col p && decide (column * 8 + (7 - j) < c.width)) := by
  rw [Framebuffer.clearTo, Framebuffer.read_mapAllocated, if_pos hp, filledPlane,
    Memory.read_fill hw _ (index_lt_planeLen hrow hcol), Nat.mul_add_mod_self_right, Nat.mod_eq_of_lt hcol,
    getLsbD_fillByte _ hcol hj]

theorem read_clearTo_outside {c : Config} (fb : Framebuffer) (col : Color) {p : PlaneId} {j : Nat}
    (h : planeAllocated c p = false ∨ planeLen c ≤ j) : (fb.clearTo c col).read p j = fb.read p j := by
  rw [Framebuffer.clearTo, Framebuffer.read_mapAllocated]
  obtain hp | hj := h
  · rw [if_neg (by simp [hp])]
  · rw [filledPlane, Memory.read_fill_outside _ _ hj, Framebuffer.read, ite_self]

/-- Settles O21: past the colour check every byte of an allocated plane is filled, and no other byte is written. -/
theorem clearFillsPlanes : Obligations.ClearFillsPlanes := by
  intro s col hw hcol
  refine ⟨_, exec_clear_supported (colorSupported_iff.2 hcol), fun p row column hp hrow hcolumn j hj => ?_,
    fun p j h => read_clearTo_outside s.fb col h⟩
  have hbit : planeBit col p = decide ((p = .bw ∧ col = .black) ∨ (p = .red ∧ col = .red)) := by
    rw [Bool.eq_iff_iff, planeBit_iff, decide_eq_true_eq]
  rw [← hbit]
  exact getLsbD_read_clearTo (hw p) col hp hrow hcolumn hj

/-! ### The pixels read back -/

/-- A panel pixel's column is inside the width, so its bit is filled and never padding. -/
theorem pixelBit_clearTo {c : Config} {fb : Framebuffer} {p : PlaneId} (hw : (fb.plane p).wf) (col : Color)
    (hp : planeAllocated c p = true) {px py : Nat} (hx : px < c.width) (hy : py < c.height) :
    pixelBit c (fb.clearTo c col) p px py = planeBit col p := by
  have hcolumn : px / 8 * 8 + (7 - (7 - px % 8)) = px := by omega
  rw [pixelBit_eq_getLsbD, locate, getLsbD_read_clearTo hw col hp hy (div_eight_lt_bpr hx) (by omega), hcolumn,
    decide_eq_true hx, Bool.and_true]

/-- Settles O22: the rotation maps the coordinate into the panel, where every allocated plane holds the colour's bit. -/
theorem clearReadsBackEverywhere : Obligations.ClearReadsBackEverywhere := by
  intro s t col hw h hr x y hx hy
  have hc := supported_of_exec_clear_ok h hr
  obtain rfl := Host.Outcome.next.inj ((exec_clear_supported hc).symm.trans h)
  obtain ⟨hpx, hpy⟩ := rotate_lt hx hy
  refine (getPixel_eq_some_iff (s.fb.clearTo s.cfg col) hx hy col).2 fun p => ?_
  cases hp : planeAllocated s.cfg p with
  | false => exact (planeBit_of_not_allocated hc hp).symm
  | true => rw [pixelBit_clearTo (hw p) col hp hpx hpy, Bool.true_and]

end Sys2Proof.Machine
end

section
/-! PROOFS. What INIT, UPDATE and SLEEP end in, for every answer of the bus and the busy line
(spec/42_display_driver.md R142, R144, R145, R148, R150; 60_exceptions.md R171 to R173). -/

namespace Sys2Proof.Machine

/-! ### Nothing to do -/

theorem fetch_nothing {s : State} (hs : s.seq = .idle) (hr : s.requests = []) : fetch s = .nothing := by
  simp only [fetch, hs, hr]

/-- Settles O11: an idle fetch with no request waiting finds nothing. -/
theorem idleBlockChangesNothing : Obligations.IdleBlockChangesNothing := by
  intro s hw hs hr
  rw [step, if_pos hw, fetch_nothing hs hr]

/-! ### The one next state -/

/-- An instruction has one next state, so what holds of some next state holds of any it is found to have. -/
theorem holds_of_next {o : Host.Outcome State Fault Refusal} {P : State → Prop} {t : State} (h : o = .next t)
    (hex : ∃ t', o = .next t' ∧ P t') : P t := by
  obtain ⟨t', ht', hP⟩ := hex
  obtain rfl := Host.Outcome.next.inj (ht'.symm.trans h)
  exact hP

/-! ### INIT -/

section

variable {s : State} {k : Nat}

/-- INIT once its wait has seen the chip idle: the boot sequence, then `Ready`. -/
theorem exec_init_of_idleAfter (hwait : IdleAfter s k) :
    exec .init s = .next ((transferAll (initTransfers s.cfg) (afterWait (k + 1) (waitEvents k) (afterPulse s))).andThen
      fun s' => .go (writeDrvState .ready s')).finish := by
  have hwait' : IdleAfter (afterPulse s) k := hwait
  change Host.Outcome.next (initFlow s).finish = _
  rw [initFlow_eq, waitIdle_idle hwait', Flow.go_andThen]

theorem exec_init_ok (hwait : IdleAfter s k) (hbus : BusOk s 14) :
    exec .init s = .next (ended .ok
      { afterTransfers (initTransfers s.cfg) (afterWait (k + 1) (waitEvents k) (afterPulse s)) with
        drvState := .ready }) := by
  rw [exec_init_of_idleAfter hwait, transferAll_ok]
  · rfl
  · rw [initTransfers_length]
    exact hbus

theorem exec_init_busFailure {n : Nat} (hwait : IdleAfter s k) (hn : n < 14) (hbus : BusFailsAt s n) :
    exec .init s = .next (ended (.err .busFailure)
      (afterFailedTransfer (initTransfers s.cfg) n (afterWait (k + 1) (waitEvents k) (afterPulse s)))) := by
  have hbus' : BusFailsAt (afterWait (k + 1) (waitEvents k) (afterPulse s)) n := hbus
  rw [exec_init_of_idleAfter hwait, transferAll_err _ _ n (by rwa [initTransfers_length]) hbus']
  rfl

theorem exec_init_timeout (hwait : StuckBusy s) :
    exec .init s = .next (ended (.err .timeout)
      (afterWait s.cfg.maxPolls (timeoutEvents s.cfg.maxPolls) (afterPulse s))) := by
  have hwait' : StuckBusy (afterPulse s) := hwait
  change Host.Outcome.next (initFlow s).finish = _
  rw [initFlow_eq, waitIdle_stuck hwait']
  rfl

end

/-- The states INIT can end in, each with the answers that lead there. -/
inductive InitOutcome (s : State) : State → Prop where
  | ok (k : Nat) (hwait : IdleAfter s k) (hbus : BusOk s 14) :
    InitOutcome s (ended .ok
      { afterTransfers (initTransfers s.cfg) (afterWait (k + 1) (waitEvents k) (afterPulse s)) with
        drvState := .ready })
  | busFailure (k n : Nat) (hwait : IdleAfter s k) (hn : n < 14) (hbus : BusFailsAt s n) :
    InitOutcome s (ended (.err .busFailure)
      (afterFailedTransfer (initTransfers s.cfg) n (afterWait (k + 1) (waitEvents k) (afterPulse s))))
  | timeout (hwait : StuckBusy s) :
    InitOutcome s (ended (.err .timeout)
      (afterWait s.cfg.maxPolls (timeoutEvents s.cfg.maxPolls) (afterPulse s)))

theorem exec_init_outcome (s : State) : ∃ t, exec .init s = .next t ∧ InitOutcome s t := by
  obtain ⟨k, hwait⟩ | hwait := idleAfter_or_stuck s
  · obtain hbus | ⟨n, hn, hbus⟩ := busOk_or_failsAt s 14
    · exact ⟨_, exec_init_ok hwait hbus, .ok k hwait hbus⟩
    · exact ⟨_, exec_init_busFailure hwait hn hbus, .busFailure k n hwait hn hbus⟩
  · exact ⟨_, exec_init_timeout hwait, .timeout hwait⟩

theorem initOutcome_of_exec {s t : State} (h : exec .init s = .next t) : InitOutcome s t :=
  holds_of_next h (exec_init_outcome s)

/-- Settles O23: the wait ends, then all fourteen transfers succeed. -/
theorem initBringsReady : Obligations.InitBringsReady := fun _ _ => exec_init_ok

/-! ### SLEEP -/

section

variable {s : State}

theorem exec_sleep_invalidState (h : s.drvState ≠ .ready) : exec .sleep s = .next (ended (.err .invalidState) s) :=
  if_pos (by simpa [stateReady] using h)

theorem exec_sleep_of_ready (h : s.drvState = .ready) :
    exec .sleep s = .next ((transferAll (sleepTransfers s.cfg) s).andThen fun s' =>
      .go (writeDrvState .sleeping s')).finish := by
  change execSleep s = _
  rw [execSleep, if_neg (by simp [stateReady, h]), sleepFlow_eq]

theorem exec_sleep_ok (h : s.drvState = .ready) (hbus : BusOk s 2) :
    exec .sleep s = .next (ended .ok { afterTransfers (sleepTransfers s.cfg) s with drvState := .sleeping }) := by
  rw [exec_sleep_of_ready h, transferAll_ok _ _ hbus]
  rfl

theorem exec_sleep_busFailure {n : Nat} (h : s.drvState = .ready) (hn : n < 2) (hbus : BusFailsAt s n) :
    exec .sleep s = .next (ended (.err .busFailure) (afterFailedTransfer (sleepTransfers s.cfg) n s)) := by
  rw [exec_sleep_of_ready h, transferAll_err (sleepTransfers s.cfg) s n hn hbus]
  rfl

end

/-- The states SLEEP can end in, each with what leads there. -/
inductive SleepOutcome (s : State) : State → Prop where
  | invalidState (h : s.drvState ≠ .ready) : SleepOutcome s (ended (.err .invalidState) s)
  | ok (h : s.drvState = .ready) (hbus : BusOk s 2) :
    SleepOutcome s (ended .ok { afterTransfers (sleepTransfers s.cfg) s with drvState := .sleeping })
  | busFailure (n : Nat) (h : s.drvState = .ready) (hn : n < 2) (hbus : BusFailsAt s n) :
    SleepOutcome s (ended (.err .busFailure) (afterFailedTransfer (sleepTransfers s.cfg) n s))

theorem exec_sleep_outcome (s : State) : ∃ t, exec .sleep s = .next t ∧ SleepOutcome s t := by
  by_cases h : s.drvState = .ready
  · obtain hbus | ⟨n, hn, hbus⟩ := busOk_or_failsAt s 2
    · exact ⟨_, exec_sleep_ok h hbus, .ok h hbus⟩
    · exact ⟨_, exec_sleep_busFailure h hn hbus, .busFailure n h hn hbus⟩
  · exact ⟨_, exec_sleep_invalidState h, .invalidState h⟩

theorem sleepOutcome_of_exec {s t : State} (h : exec .sleep s = .next t) : SleepOutcome s t :=
  holds_of_next h (exec_sleep_outcome s)

/-! ### UPDATE -/

/-- The panel has a pixel; without one the window of UPDATE is no region (40_command_encoder.md R106). -/
abbrev HasPixel (c : Config) : Prop :=
  1 ≤ c.width ∧ 1 ≤ c.height

theorem hasPixel_of_wellFormed {c : Config} (h : c.WellFormed) : HasPixel c := by
  obtain ⟨hwidth, -, hheight, -⟩ := h
  exact ⟨hwidth, hheight⟩

theorem setRamWindow_noPixel {c : Config} (h : ¬ HasPixel c) :
    setRamWindow c 0 0 (c.width - 1) (c.height - 1) = .error .invalidRegion := by
  have hr : regionValid c.width c.height 0 0 (c.width - 1) (c.height - 1) = false := by
    simp [regionValid]
    omega
  rw [setRamWindow, hr]
  rfl

/-- Besides its planes UPDATE makes seven transfers: the window's four and the trigger's three. -/
theorem updateTransfers_length (c : Config) (fb : Framebuffer) (mode : RefreshMode) :
    (updateTransfers c fb mode).length = 7 + (planeTransfers c fb).length := by
  simp [updateTransfers, transfersOf, bytePair]
  omega

section

variable {s : State} (mode : RefreshMode)

theorem exec_update_invalidState (h : s.drvState ≠ .ready) :
    exec (.update mode) s = .next (ended (.err .invalidState) s) :=
  if_pos (by simpa [stateReady] using h)

theorem exec_update_noPixel (h : s.drvState = .ready) (hp : ¬ HasPixel s.cfg) :
    exec (.update mode) s = .next (ended (.err .invalidRegion) s) := by
  obtain ⟨planes, hplanes, -⟩ := planeDescriptors_eq s.cfg s.fb
  change execUpdate mode s = _
  simp only [execUpdate, stateReady_iff.2 h, hplanes, updateFlow, setRamWindow_noPixel hp, Bool.true_eq_false, if_false]
  rfl

/-- UPDATE once its transfers are answered `ok`: `Updating`, the wait, then `Ready`. -/
theorem exec_update_of_busOk (h : s.drvState = .ready) (hp : HasPixel s.cfg)
    (hbus : BusOk s (updateTransfers s.cfg s.fb mode).length) :
    exec (.update mode) s = .next ((waitIdle (writeDrvState .updating
      (afterTransfers (updateTransfers s.cfg s.fb mode) s))).andThen fun s' => .go (writeDrvState .ready s')).finish := by
  change execUpdate mode s = _
  rw [execUpdate_eq mode (stateReady_iff.2 h) hp.1 hp.2, transferAll_ok _ _ hbus, Flow.go_andThen]

theorem exec_update_completes {k : Nat} (h : s.drvState = .ready) (hp : HasPixel s.cfg)
    (hbus : BusOk s (updateTransfers s.cfg s.fb mode).length) (hwait : IdleAfter s k) :
    exec (.update mode) s = .next (ended .ok
      { afterWait (k + 1) (waitEvents k) (afterTransfers (updateTransfers s.cfg s.fb mode) s) with
        drvState := .ready }) := by
  have hwait' : IdleAfter (writeDrvState .updating (afterTransfers (updateTransfers s.cfg s.fb mode) s)) k := hwait
  rw [exec_update_of_busOk mode h hp hbus, waitIdle_idle hwait']
  rfl

theorem exec_update_timeout (h : s.drvState = .ready) (hp : HasPixel s.cfg)
    (hbus : BusOk s (updateTransfers s.cfg s.fb mode).length) (hwait : StuckBusy s) :
    exec (.update mode) s = .next (ended (.err .timeout)
      { afterWait s.cfg.maxPolls (timeoutEvents s.cfg.maxPolls)
          (afterTransfers (updateTransfers s.cfg s.fb mode) s) with drvState := .updating }) := by
  have hwait' : StuckBusy (writeDrvState .updating (afterTransfers (updateTransfers s.cfg s.fb mode) s)) := hwait
  rw [exec_update_of_busOk mode h hp hbus, waitIdle_stuck hwait']
  rfl

theorem exec_update_busFailure {n : Nat} (h : s.drvState = .ready) (hp : HasPixel s.cfg)
    (hn : n < (updateTransfers s.cfg s.fb mode).length) (hbus : BusFailsAt s n) :
    exec (.update mode) s = .next (ended (.err .busFailure)
      (afterFailedTransfer (updateTransfers s.cfg s.fb mode) n s)) := by
  change execUpdate mode s = _
  rw [execUpdate_eq mode (stateReady_iff.2 h) hp.1 hp.2, transferAll_err _ _ n hn hbus]
  rfl

end

/-- The states UPDATE can end in, each with what leads there; the mode plays no part in which one it is. A panel
without a pixel is ill-formed (10_state.md R11), and no step runs with one. -/
inductive UpdateOutcome (s : State) : (RefreshMode → State) → Prop where
  | invalidState (h : s.drvState ≠ .ready) : UpdateOutcome s fun _ => ended (.err .invalidState) s
  | noPixel (h : s.drvState = .ready) (hp : ¬ HasPixel s.cfg) :
    UpdateOutcome s fun _ => ended (.err .invalidRegion) s
  | busFailure (n : Nat) (h : s.drvState = .ready) (hn : n < 7 + (planeTransfers s.cfg s.fb).length)
      (hbus : BusFailsAt s n) :
    UpdateOutcome s fun mode =>
      ended (.err .busFailure) (afterFailedTransfer (updateTransfers s.cfg s.fb mode) n s)
  | timeout (h : s.drvState = .ready) (hbus : BusOk s (7 + (planeTransfers s.cfg s.fb).length))
      (hwait : StuckBusy s) :
    UpdateOutcome s fun mode => ended (.err .timeout)
      { afterWait s.cfg.maxPolls (timeoutEvents s.cfg.maxPolls)
          (afterTransfers (updateTransfers s.cfg s.fb mode) s) with drvState := .updating }
  | ok (k : Nat) (h : s.drvState = .ready) (hbus : BusOk s (7 + (planeTransfers s.cfg s.fb).length))
      (hwait : IdleAfter s k) :
    UpdateOutcome s fun mode => ended .ok
      { afterWait (k + 1) (waitEvents k) (afterTransfers (updateTransfers s.cfg s.fb mode) s) with
        drvState := .ready }

theorem exec_update_outcome (s : State) :
    ∃ ends, UpdateOutcome s ends ∧ ∀ mode, exec (.update mode) s = .next (ends mode) := by
  by_cases h : s.drvState = .ready
  case neg => exact ⟨_, .invalidState h, fun mode => exec_update_invalidState mode h⟩
  by_cases hp : HasPixel s.cfg
  case neg => exact ⟨_, .noPixel h hp, fun mode => exec_update_noPixel mode h hp⟩
  have hlen := updateTransfers_length s.cfg s.fb
  obtain hbus | ⟨n, hn, hbus⟩ := busOk_or_failsAt s (7 + (planeTransfers s.cfg s.fb).length)
  · obtain ⟨k, hwait⟩ | hwait := idleAfter_or_stuck s
    · exact ⟨_, .ok k h hbus hwait, fun mode => exec_update_completes mode h hp ((hlen mode).symm ▸ hbus) hwait⟩
    · exact ⟨_, .timeout h hbus hwait, fun mode => exec_update_timeout mode h hp ((hlen mode).symm ▸ hbus) hwait⟩
  · exact ⟨_, .busFailure n h hn hbus, fun mode => exec_update_busFailure mode h hp ((hlen mode).symm ▸ hn) hbus⟩

theorem updateOutcome_of_exec {mode : RefreshMode} {s t : State} (h : exec (.update mode) s = .next t) :
    ∃ ends, UpdateOutcome s ends ∧ t = ends mode := by
  obtain ⟨ends, ho, he⟩ := exec_update_outcome s
  exact ⟨ends, ho, Host.Outcome.next.inj (h.symm.trans (he mode))⟩

theorem planeLen_pos {c : Config} (h : HasPixel c) : 0 < planeLen c := by
  have hbpr : 0 < bpr c := by
    rw [bpr]
    omega
  exact Nat.mul_pos hbpr h.2

theorem planeTransfers_length {c : Config} (fb : Framebuffer) (h : HasPixel c) :
    (planeTransfers c fb).length = match c.planes with
      | .one => 2
      | .two => 4 := by
  have hne : ∀ p, planeBytes c fb p ≠ [] := fun p => by
    rw [← List.length_pos_iff, planeBytes_length]
    exact planeLen_pos h
  rw [planeTransfers, transfersOf_of_ne_nil _ (hne .bw), transfersOf_of_ne_nil _ (hne .red)]
  cases c.planes <;> rfl

/-- Settles O24: all transfers succeed, then the wait ends; each whole plane is two of the transfers. -/
theorem updateSendsEverythingAndWaits : Obligations.UpdateSendsEverythingAndWaits := by
  intro s mode k hw hready hwait hbus
  have hp := hasPixel_of_wellFormed hw
  refine ⟨exec_update_completes mode hready hp hbus hwait, ?_⟩
  rw [updateTransfers_length, planeTransfers_length s.fb hp]
  cases s.cfg.planes <;> rfl

/-! ### Errors of the bus and of the wait -/

/-- Settles O27: INIT's wait is stuck before any transfer, UPDATE's after all of them, and a later INIT asks for no
driver state. -/
theorem timeoutWithinBound : Obligations.TimeoutWithinBound := by
  refine ⟨fun _ => exec_init_timeout, fun s mode hw hready hbus hwait => ?_, fun s t u i k _ _ hwait hbus hu => ?_⟩
  · exact exec_update_timeout mode hready (hasPixel_of_wellFormed hw) hbus hwait
  · obtain rfl := Host.Outcome.next.inj ((exec_init_ok hwait hbus).symm.trans hu)
    exact ⟨rfl, rfl⟩

/-- Settles O28: in each of the three requests the first transfer answered `err` raises. -/
theorem busFailureEndsTheRequest : Obligations.BusFailureEndsTheRequest :=
  ⟨fun _ _ _ => exec_init_busFailure,
    fun _ mode _ hw hready => exec_update_busFailure mode hready (hasPixel_of_wellFormed hw),
    fun _ _ => exec_sleep_busFailure⟩

end Sys2Proof.Machine
end

section
/-! PROOFS. What the ends of the requests have in common: the driver state and the result they leave
(spec/42_display_driver.md R141, R148, R149; 60_exceptions.md R170, R178), the number of their events (R155), and what
the two refresh modes share (R153). -/

namespace Sys2Proof.Machine

/-! ### Results and driver states -/

/-- What every end of a request leaves (60_exceptions.md R178). -/
theorem exec_ends_with_result {i : Instr} {s u : State} {r : Result} (h : exec i s = .next (ended r u))
    (hr : r ≠ .err .invalidRegion) :
    ∃ t r, exec i s = .next t ∧ t.seq = .idle ∧ t.pollN = none ∧ t.result = some r ∧ r ≠ .err .invalidRegion :=
  ⟨_, r, h, rfl, rfl, rfl, hr⟩

/-- Settles O33: each outcome of each request is an `ended`, and the panel of a well-formed block has a pixel. -/
theorem everyRequestEndsWithAResult : Obligations.EveryRequestEndsWithAResult := by
  intro i s hw hi
  cases i with
  | init =>
    obtain ⟨t, h, ho⟩ := exec_init_outcome s
    cases ho <;> exact exec_ends_with_result h (by decide)
  | update mode =>
    obtain ⟨ends, ho, h⟩ := exec_update_outcome s
    cases ho with
    | noPixel _ hp => exact absurd (hasPixel_of_wellFormed hw) hp
    | _ => exact exec_ends_with_result (h mode) (by decide)
  | sleep =>
    obtain ⟨t, h, ho⟩ := exec_sleep_outcome s
    cases ho <;> exact exec_ends_with_result h (by decide)
  | setPixel x y col =>
    cases hc : colorSupported s.cfg col with
    | false => exact exec_ends_with_result (exec_setPixel_unsupported x y hc) (by decide)
    | true =>
      cases hb : inBounds s.cfg x.toNat y.toNat with
      | false => exact exec_ends_with_result (exec_setPixel_outOfBounds hc hb) (by decide)
      | true => exact exec_ends_with_result (exec_setPixel_inBounds hc hb) (by decide)
  | clear col =>
    cases hc : colorSupported s.cfg col with
    | false => exact exec_ends_with_result (exec_clear_unsupported hc) (by decide)
    | true => exact exec_ends_with_result (exec_clear_supported hc) (by decide)
  | _ => cases hi

/-- The three requests that run a sequence on the bus (42_display_driver.md R142, R144, R145). -/
def Sequences (i : Instr) : Prop :=
  i = .init ∨ (∃ mode, i = .update mode) ∨ i = .sleep

theorem send_settle_drvState (d : Descriptor) (s : State) : (send d s).settle.drvState = s.drvState := by
  rw [send_eq_transferAll]
  rcases transferAll_cases (transfersOf d.op d.data) s with h | ⟨n, -, -, h⟩ <;> rw [h] <;> rfl

/-- Drawing and single descriptors leave the driver state alone (42_display_driver.md R141). -/
theorem exec_keeps_drvState {i : Instr} {s t : State} (hi : ¬ Sequences i) (h : exec i s = .next t) :
    t.drvState = s.drvState := by
  cases hr : isRequest i with
  | false =>
    obtain ⟨d, rfl⟩ := exec_descriptor hr h
    exact send_settle_drvState d s
  | true =>
    have hd : Draws i := by
      cases i with
      | setPixel x y col => exact .inl ⟨x, y, col, rfl⟩
      | clear col => exact .inr ⟨col, rfl⟩
      | init => exact absurd (.inl rfl) hi
      | update mode => exact absurd (.inr (.inl ⟨mode, rfl⟩)) hi
      | sleep => exact absurd (.inr (.inr rfl)) hi
      | _ => cases hr
    obtain ⟨r, fb, rfl⟩ := exec_draws hd h
    rfl

/-- Settles O34: one row of the table for each outcome. -/
theorem driverStateTable : Obligations.DriverStateTable := by
  intro i s t hw h
  cases i with
  | init =>
    cases initOutcome_of_exec h with
    | ok => exact .inl ⟨rfl, rfl⟩
    | busFailure => exact .inr ⟨.inr rfl, rfl⟩
    | timeout => exact .inr ⟨.inl rfl, rfl⟩
  | update mode =>
    obtain ⟨ends, ho, rfl⟩ := updateOutcome_of_exec h
    cases ho with
    | invalidState hs => exact .inr ⟨hs, rfl, rfl⟩
    | noPixel _ hp => exact absurd (hasPixel_of_wellFormed hw) hp
    | busFailure n hs => exact .inl ⟨hs, .inr (.inl ⟨rfl, hs⟩)⟩
    | timeout hs => exact .inl ⟨hs, .inr (.inr ⟨rfl, rfl⟩)⟩
    | ok k hs => exact .inl ⟨hs, .inl ⟨rfl, rfl⟩⟩
  | sleep =>
    cases sleepOutcome_of_exec h with
    | invalidState hs => exact .inr ⟨hs, rfl, rfl⟩
    | ok hs => exact .inl ⟨hs, .inl ⟨rfl, rfl⟩⟩
    | busFailure n hs => exact .inl ⟨hs, .inr ⟨rfl, hs⟩⟩
  | _ => exact exec_keeps_drvState (by simp [Sequences]) h

/-- How the driver state can move: not at all, to `Ready` by INIT, and out of `Ready` by UPDATE and SLEEP
(42_display_driver.md R148). -/
theorem exec_drvState_cases {i : Instr} {s t : State} (h : exec i s = .next t) :
    t.drvState = s.drvState ∨
    (i = .init ∧ t.drvState = .ready ∧ t.result = some .ok) ∨
    (s.drvState = .ready ∧
      ((∃ mode, i = .update mode ∧ t.result = some (.err .timeout)) ∨ t.drvState ≠ .updating)) := by
  by_cases hi : Sequences i
  case neg => exact .inl (exec_keeps_drvState hi h)
  obtain rfl | ⟨mode, rfl⟩ | rfl := hi
  · cases initOutcome_of_exec h with
    | ok => exact .inr (.inl ⟨rfl, rfl, rfl⟩)
    | busFailure | timeout => exact .inl rfl
  · obtain ⟨ends, ho, rfl⟩ := updateOutcome_of_exec h
    cases ho with
    | invalidState | noPixel | busFailure => exact .inl rfl
    | timeout hs => exact .inr (.inr ⟨hs, .inl ⟨mode, rfl, rfl⟩⟩)
    | ok k hs => exact .inl hs.symm
  · cases sleepOutcome_of_exec h with
    | invalidState | busFailure => exact .inl rfl
    | ok hs => exact .inr (.inr ⟨hs, .inr nofun⟩)

/-- Settles O35: of the moves of the driver state, only UPDATE's `Timeout` leads to `Updating`, and only INIT's starts
there. -/
theorem updatingOnlyAfterTimeout : Obligations.UpdatingOnlyAfterTimeout := by
  intro i s t h
  obtain hkeep | ⟨rfl, hready, hok⟩ | ⟨hready, hmove⟩ := exec_drvState_cases h
  · rw [hkeep]
    exact ⟨fun hne heq => absurd heq hne, fun heq hne => absurd heq hne⟩
  · rw [hready]
    exact ⟨nofun, fun _ _ => ⟨rfl, rfl, hok⟩⟩
  · rw [hready]
    refine ⟨fun _ hupdating => ?_, nofun⟩
    obtain ⟨mode, rfl, htimeout⟩ | hne := hmove
    · exact ⟨mode, rfl, rfl, htimeout⟩
    · exact absurd hupdating hne

/-! ### The number of events -/

@[simp] theorem okEvents_length (ts : List Transfer) : (okEvents ts).length = 2 * ts.length := by
  induction ts with
  | nil => rfl
  | cons t rest ih =>
    simp only [okEvents, List.length_cons, ih]
    omega

theorem failEvents_length_le (ts : List Transfer) (n : Nat) : (failEvents ts n).length ≤ 2 * ts.length := by
  induction ts generalizing n with
  | nil => simp [failEvents]
  | cons t rest ih =>
    cases n with
    | zero =>
      simp only [failEvents, List.length_cons, List.length_nil]
      omega
    | succ n =>
      have := ih n
      simp only [failEvents, List.length_cons]
      omega

@[simp] theorem waitEvents_length (k : Nat) : (waitEvents k).length = 2 * k + 1 := by
  induction k with
  | zero => rfl
  | succ k ih =>
    simp only [waitEvents, List.length_cons, ih]
    omega

@[simp] theorem timeoutEvents_length (n : Nat) : (timeoutEvents n).length = 2 * n - 1 := by
  fun_induction timeoutEvents n with
  | case1 | case2 => rfl
  | case3 n ih =>
    simp only [List.length_cons, ih]
    omega

theorem planeTransfers_length_le (c : Config) (fb : Framebuffer) : (planeTransfers c fb).length ≤ 4 := by
  have hlen : ∀ op data, (transfersOf op data).length ≤ 2 := fun op data => by
    by_cases h : data = [] <;> simp [transfersOf, h]
  have hbw := hlen c.opc.writeRamBw (planeBytes c fb .bw)
  have hred := hlen c.opc.writeRamRed (planeBytes c fb .red)
  rw [planeTransfers, List.length_append]
  split
  · simp only [List.length_nil]
    omega
  · omega

@[simp] theorem ended_trace (r : Result) (s : State) : (ended r s).trace = s.trace := rfl

@[simp] theorem afterTransfers_trace (ts : List Transfer) (s : State) :
    (afterTransfers ts s).trace = s.trace ++ okEvents ts := rfl

@[simp] theorem afterFailedTransfer_trace (ts : List Transfer) (n : Nat) (s : State) :
    (afterFailedTransfer ts n s).trace = s.trace ++ failEvents ts n := rfl

@[simp] theorem afterWait_trace (used : Nat) (ev : List Event) (s : State) :
    (afterWait used ev s).trace = s.trace ++ ev := rfl

@[simp] theorem afterPulse_trace (s : State) : (afterPulse s).trace = s.trace ++ pulseEvents := rfl

theorem exec_init_trace_length_le {s t : State} (hmax : 1 ≤ s.cfg.maxPolls) (h : exec .init s = .next t) :
    t.trace.length ≤ s.trace.length + (4 + (2 * s.cfg.maxPolls - 1) + 28) := by
  have hpulse : pulseEvents.length = 4 := rfl
  cases initOutcome_of_exec h with
  | ok k hwait =>
    have hk := hwait.1
    simp only [ended_trace, afterTransfers_trace, afterWait_trace, afterPulse_trace, List.length_append, hpulse,
      okEvents_length, waitEvents_length, initTransfers_length]
    omega
  | busFailure k n hwait =>
    have hk := hwait.1
    have hfail := failEvents_length_le (initTransfers s.cfg) n
    rw [initTransfers_length] at hfail
    simp only [ended_trace, afterFailedTransfer_trace, afterWait_trace, afterPulse_trace, List.length_append, hpulse,
      waitEvents_length]
    omega
  | timeout =>
    simp only [ended_trace, afterWait_trace, afterPulse_trace, List.length_append, hpulse, timeoutEvents_length]
    omega

theorem exec_update_trace_length_le {mode : RefreshMode} {s t : State} (hmax : 1 ≤ s.cfg.maxPolls)
    (h : exec (.update mode) s = .next t) :
    t.trace.length ≤ s.trace.length + (22 + (2 * s.cfg.maxPolls - 1)) := by
  have hplanes := planeTransfers_length_le s.cfg s.fb
  have hlen := updateTransfers_length s.cfg s.fb mode
  obtain ⟨ends, ho, rfl⟩ := updateOutcome_of_exec h
  cases ho with
  | invalidState | noPixel => exact Nat.le_add_right _ _
  | busFailure n =>
    have hfail := failEvents_length_le (updateTransfers s.cfg s.fb mode) n
    simp only [ended_trace, afterFailedTransfer_trace, List.length_append]
    omega
  | timeout =>
    simp only [ended_trace, afterWait_trace, afterTransfers_trace, List.length_append, okEvents_length,
      timeoutEvents_length]
    omega
  | ok k _ _ hwait =>
    have hk := hwait.1
    simp only [ended_trace, afterWait_trace, afterTransfers_trace, List.length_append, okEvents_length,
      waitEvents_length]
    omega

theorem exec_sleep_trace_length_le {s t : State} (h : exec .sleep s = .next t) :
    t.trace.length ≤ s.trace.length + 4 := by
  have hlen : (sleepTransfers s.cfg).length = 2 := rfl
  cases sleepOutcome_of_exec h with
  | invalidState => exact Nat.le_add_right _ _
  | ok => simp [hlen]
  | busFailure n =>
    have hfail := failEvents_length_le (sleepTransfers s.cfg) n
    simp only [ended_trace, afterFailedTransfer_trace, List.length_append]
    omega

/-- Settles O39: each transfer is two events, and a wait one event less than twice its samples. -/
theorem eventsAreBounded : Obligations.EventsAreBounded := by
  intro i s t hmax hi h
  cases i with
  | init => exact exec_init_trace_length_le hmax h
  | update mode => exact exec_update_trace_length_le hmax h
  | sleep => exact exec_sleep_trace_length_le h
  | setPixel x y col =>
    obtain ⟨r, fb, rfl⟩ := exec_draws (.inl ⟨x, y, col, rfl⟩) h
    exact Nat.le_refl _
  | clear col =>
    obtain ⟨r, fb, rfl⟩ := exec_draws (.inr ⟨col, rfl⟩) h
    exact Nat.le_refl _
  | _ => cases hi

/-! ### The two refresh modes -/

/-- The events of the two modes at one place of their traces (42_display_driver.md R153). -/
def ModeEvents (c : Config) (e f : Event) : Prop :=
  e = f ∨ ∃ a, e = .write [c.val.updateFull] a ∧ f = .write [c.val.updatePartial] a

/-- The transfers of the two modes at one place of their sequences (40_command_encoder.md R98). -/
def ModeTransfers (c : Config) (t u : Transfer) : Prop :=
  t = u ∨ t = (.data, [c.val.updateFull]) ∧ u = (.data, [c.val.updatePartial])

section

variable {c : Config}

theorem modeEvents_refl (ev : List Event) : List.Forall₂ (ModeEvents c) ev ev :=
  List.forall₂_same.2 fun _ _ => .inl rfl

theorem modeEvents_append {a a' b b' : List Event} (ha : List.Forall₂ (ModeEvents c) a a')
    (hb : List.Forall₂ (ModeEvents c) b b') : List.Forall₂ (ModeEvents c) (a ++ b) (a' ++ b') :=
  List.rel_append ha hb

/-- One transfer under each mode, with the same answer. -/
theorem ModeTransfers.events {t u : Transfer} (h : ModeTransfers c t u) (answer : BusAnswer) :
    List.Forall₂ (ModeEvents c) [.mode t.1, .write t.2 answer] [.mode u.1, .write u.2 answer] := by
  obtain rfl | ⟨rfl, rfl⟩ := h
  · exact modeEvents_refl _
  · exact .cons (.inl rfl) (.cons (.inr ⟨answer, rfl, rfl⟩) .nil)

theorem modeEvents_okEvents {ts us : List Transfer} (h : List.Forall₂ (ModeTransfers c) ts us) :
    List.Forall₂ (ModeEvents c) (okEvents ts) (okEvents us) := by
  induction h with
  | nil => exact .nil
  | cons ht _ ih => exact modeEvents_append (ht.events .ok) ih

theorem modeEvents_failEvents {ts us : List Transfer} (h : List.Forall₂ (ModeTransfers c) ts us) (n : Nat) :
    List.Forall₂ (ModeEvents c) (failEvents ts n) (failEvents us n) := by
  induction h generalizing n with
  | nil => exact .nil
  | cons ht _ ih =>
    cases n with
    | zero => exact ht.events .err
    | succ n => exact modeEvents_append (ht.events .ok) (ih n)

theorem modeTransfers_updateTransfers (fb : Framebuffer) :
    List.Forall₂ (ModeTransfers c) (updateTransfers c fb .fullRefresh) (updateTransfers c fb .partialRefresh) := by
  have htrigger : List.Forall₂ (ModeTransfers c) (triggerTransfers c .fullRefresh) (triggerTransfers c .partialRefresh) :=
    .cons (.inl rfl) (.cons (.inr ⟨rfl, rfl⟩) (.cons (.inl rfl) .nil))
  rw [updateTransfers_parts, updateTransfers_parts]
  exact List.rel_append (List.forall₂_same.2 fun _ _ => .inl rfl) htrigger

theorem ModeTransfers.fst_eq {t u : Transfer} (h : ModeTransfers c t u) : t.1 = u.1 := by
  obtain rfl | ⟨rfl, rfl⟩ := h <;> rfl

theorem modeTransfers_lastMode {ts us : List Transfer} (h : List.Forall₂ (ModeTransfers c) ts us) (m : SelectMode) :
    lastMode m ts = lastMode m us := by
  induction h generalizing m with
  | nil => rfl
  | cons ht _ ih =>
    rw [lastMode, lastMode, ht.fst_eq]
    exact ih _

theorem afterTransfers_modes {ts us : List Transfer} (h : List.Forall₂ (ModeTransfers c) ts us) (s : State) :
    afterTransfers us s = { afterTransfers ts s with trace := s.trace ++ okEvents us } := by
  simp only [afterTransfers, h.length_eq, modeTransfers_lastMode h]

theorem afterFailedTransfer_modes {ts us : List Transfer} (h : List.Forall₂ (ModeTransfers c) ts us) (n : Nat)
    (s : State) :
    afterFailedTransfer us n s = { afterFailedTransfer ts n s with trace := s.trace ++ failEvents us n } := by
  simp only [afterFailedTransfer, modeTransfers_lastMode (List.forall₂_take (n + 1) h)]

theorem modeEvents_getElem? {ts us : List Event} (h : List.Forall₂ (ModeEvents c) ts us) {j : Nat} {e f : Event}
    (he : ts[j]? = some e) (hf : us[j]? = some f) : ModeEvents c e f := by
  obtain ⟨hj, rfl⟩ := List.getElem?_eq_some_iff.1 he
  obtain ⟨hj', rfl⟩ := List.getElem?_eq_some_iff.1 hf
  exact h.get hj hj'

end

/-- An outcome of UPDATE is the same under both modes but for the events that show the mode. -/
theorem UpdateOutcome.modes {s : State} {ends : RefreshMode → State} (h : UpdateOutcome s ends) :
    ends .partialRefresh = { ends .fullRefresh with trace := (ends .partialRefresh).trace } ∧
      List.Forall₂ (ModeEvents s.cfg) (ends .fullRefresh).trace (ends .partialRefresh).trace := by
  have hts := modeTransfers_updateTransfers (c := s.cfg) s.fb
  have hok := modeEvents_append (modeEvents_refl s.trace) (modeEvents_okEvents hts)
  cases h with
  | invalidState | noPixel => exact ⟨rfl, modeEvents_refl _⟩
  | busFailure n =>
    exact ⟨congrArg (ended _) (afterFailedTransfer_modes hts n s),
      modeEvents_append (modeEvents_refl _) (modeEvents_failEvents hts n)⟩
  | timeout =>
    exact ⟨congrArg (fun u => ended _ (writeDrvState .updating (afterWait _ _ u))) (afterTransfers_modes hts s),
      modeEvents_append hok (modeEvents_refl _)⟩
  | ok k =>
    exact ⟨congrArg (fun u => ended _ (writeDrvState .ready (afterWait _ _ u))) (afterTransfers_modes hts s),
      modeEvents_append hok (modeEvents_refl _)⟩

/-- Settles O32: the answers decide which outcome UPDATE has, and each shows the mode in one transfer's byte only. -/
theorem fullAndPartialDifferInOneByte : Obligations.FullAndPartialDifferInOneByte := by
  intro s t u ht hu
  obtain ⟨ends, ho, he⟩ := exec_update_outcome s
  obtain rfl := Host.Outcome.next.inj ((he _).symm.trans ht)
  obtain rfl := Host.Outcome.next.inj ((he _).symm.trans hu)
  obtain ⟨hstate, htrace⟩ := ho.modes
  exact ⟨hstate, htrace.length_eq, fun j e f => modeEvents_getElem? htrace⟩

end Sys2Proof.Machine
end

section
/-! PROOFS. The checks that raise an error before anything is done, and a descriptor whose transfer fails
(spec/60_exceptions.md R173 to R176, R178). -/

namespace Sys2Proof.Machine

/-! ### The rectangle check of the encoder -/

theorem regionValid_iff {w h x0 y0 x1 y1 : Nat} :
    regionValid w h x0 y0 x1 y1 = true ↔ x0 ≤ x1 ∧ y0 ≤ y1 ∧ x1 < w ∧ y1 < h := by
  simp [regionValid]
  omega

/-- Settles O45: the rectangle check decides; the X corners become byte columns, the Y corners two bytes each. -/
theorem ramWindowChecksItsRectangle : Obligations.RamWindowChecksItsRectangle := by
  refine fun c x0 y0 x1 y1 => ⟨fun hx hy hw hh => ?_, fun hout => if_neg fun hvalid => ?_⟩
  · rw [setRamWindow, if_pos (regionValid_iff.2 ⟨hx, hy, hw, hh⟩), ramYRange_rowOf]
    rfl
  · have hin := regionValid_iff.1 hvalid
    omega

/-! ### The checks of the drawing requests -/

/-- Settles O19: the colour passes its check, which comes first (60_exceptions.md R180), and the coordinate fails. -/
theorem setPixelOutOfBounds : Obligations.SetPixelOutOfBounds := by
  intro s x y col hcol hout
  refine exec_setPixel_outOfBounds (colorSupported_iff.2 hcol) (Bool.eq_false_iff.2 fun hb => ?_)
  have hin := inBounds_iff.1 hb
  omega

/-- Settles O20: `Red` fails the colour check, which both requests make first. -/
theorem redNeedsSecondPlane : Obligations.RedNeedsSecondPlane := by
  intro s hone
  have hc : colorSupported s.cfg .red = false := Bool.eq_false_iff.2 fun hc => colorSupported_iff.1 hc ⟨rfl, hone⟩
  exact ⟨fun x y => exec_setPixel_unsupported x y hc, exec_clear_unsupported hc⟩

/-- A drawing request reads the configuration and the framebuffer only, and checks no driver state
(41_framebuffer.md R120). -/
theorem exec_draws_outcome {i : Instr} (hi : Draws i) (c : Config) (fb : Framebuffer) :
    ∃ r fb', r ≠ .err .invalidState ∧
      ∀ s : State, s.cfg = c → s.fb = fb → exec i s = .next (ended r { s with fb := fb' }) := by
  obtain ⟨x, y, col, rfl⟩ | ⟨col, rfl⟩ := hi
  · cases hc : colorSupported c col with
    | false =>
      exact ⟨.err .unsupportedColor, fb, nofun, by rintro s rfl rfl; exact exec_setPixel_unsupported x y hc⟩
    | true =>
      cases hb : inBounds c x.toNat y.toNat with
      | false =>
        exact ⟨.err .outOfBounds, fb, nofun, by rintro s rfl rfl; exact exec_setPixel_outOfBounds hc hb⟩
      | true =>
        exact ⟨.ok, fb.drawPixel c (rotate c x.toNat y.toNat).1 (rotate c x.toNat y.toNat).2 col, nofun,
          by rintro s rfl rfl; exact exec_setPixel_inBounds hc hb⟩
  · cases hc : colorSupported c col with
    | false =>
      exact ⟨.err .unsupportedColor, fb, nofun, by rintro s rfl rfl; exact exec_clear_unsupported hc⟩
    | true =>
      exact ⟨.ok, fb.clearTo c col, nofun, by rintro s rfl rfl; exact exec_clear_supported hc⟩

/-! ### The state check -/

theorem exec_draws_ne_invalidState {i : Instr} {s t : State} (hi : Draws i) (h : exec i s = .next t) :
    t.result ≠ some (.err .invalidState) := by
  obtain ⟨r, fb, hr, he⟩ := exec_draws_outcome hi s.cfg s.fb
  obtain rfl := Host.Outcome.next.inj ((he s rfl rfl).symm.trans h)
  exact fun heq => hr (Option.some.inj heq)

/-- Settles O26: UPDATE and SLEEP make the check first, and the other requests have no outcome with this error. -/
theorem invalidStateBeforeAnyEvent : Obligations.InvalidStateBeforeAnyEvent := by
  refine ⟨fun s hs => ⟨fun mode => exec_update_invalidState mode hs, exec_sleep_invalidState hs⟩, fun s t h => ?_⟩
  obtain h | ⟨x, y, col, h⟩ | ⟨col, h⟩ := h
  · cases initOutcome_of_exec h <;> nofun
  · exact exec_draws_ne_invalidState (.inl ⟨x, y, col, rfl⟩) h
  · exact exec_draws_ne_invalidState (.inr ⟨col, rfl⟩) h

/-- Settles O25: past the state check both transfers succeed. -/
theorem sleepSendsDeepSleep : Obligations.SleepSendsDeepSleep := fun _ => exec_sleep_ok

/-! ### A single descriptor that fails -/

theorem runDescriptor_err {d : Descriptor} {s : State} {n : Nat} (hn : n < (transfersOf d.op d.data).length)
    (hbus : BusFailsAt s n) :
    runDescriptor d s = .next (ended (.err .busFailure) (afterFailedTransfer (transfersOf d.op d.data) n s)) := by
  rw [runDescriptor, send_eq_transferAll, transferAll_err _ s n hn hbus, Flow.settle_stop]

/-- Settles O49: the descriptor runs as its `Send`, which raises at the first transfer answered `err`. -/
theorem descriptorFailsAtItsTransfer : Obligations.DescriptorFailsAtItsTransfer := by
  intro s i d n he hbw hred hn hbus
  have hp : WritesWholePlane s.cfg i := by
    cases i with
    | writeRamBw bytes => exact hbw bytes rfl
    | writeRamRed bytes => exact hred bytes rfl
    | _ => trivial
  rw [exec_encode he hp, runDescriptor_err hn hbus]

end Sys2Proof.Machine
end

section
/-! PROOFS. What the errors of INIT, UPDATE and SLEEP show in the trace (spec/60_exceptions.md R171), the delay a
request asks for (R185), and that no request depends on how the last one ended (R177). -/

namespace Sys2Proof.Machine

/-! ### New events -/

/-- The events an instruction that leads from `s` to `t` has appended. -/
def newEvents (s t : State) : List Event :=
  t.trace.drop s.trace.length

theorem exec_trace_eq {i : Instr} {s t : State} (h : exec i s = .next t) : t.trace = s.trace ++ newEvents s t := by
  obtain ⟨ev, ht, -⟩ := exec_emits h
  rw [newEvents, ht, List.drop_left]

/-! ### Transfers answered `err` -/

/-- No transfer of `ev` is answered `err`. -/
def NoErr (ev : List Event) : Prop :=
  ∀ bytes, .write bytes .err ∉ ev

@[simp] theorem noErr_nil : NoErr [] := nofun

@[simp] theorem noErr_append {a b : List Event} : NoErr (a ++ b) ↔ NoErr a ∧ NoErr b := by
  simp [NoErr, forall_and]

@[simp] theorem noErr_cons {e : Event} {ev : List Event} :
    NoErr (e :: ev) ↔ (∀ bytes, e ≠ .write bytes .err) ∧ NoErr ev := by
  simp [NoErr, forall_and, eq_comm]

@[simp] theorem noErr_okEvents (ts : List Transfer) : NoErr (okEvents ts) := by
  induction ts with
  | nil => exact noErr_nil
  | cons t rest ih => simpa [okEvents] using ih

@[simp] theorem noErr_waitEvents (k : Nat) : NoErr (waitEvents k) := by
  induction k with
  | zero => simp [waitEvents]
  | succ k ih => simpa [waitEvents] using ih

@[simp] theorem noErr_timeoutEvents (n : Nat) : NoErr (timeoutEvents n) := by
  fun_induction timeoutEvents n with
  | case1 => exact noErr_nil
  | case2 => simp
  | case3 n ih => simpa using ih

@[simp] theorem noErr_pulseEvents : NoErr pulseEvents := by
  simp [pulseEvents]

/-- One transfer of `ev` is answered `err`, and it is the last event. -/
def FailsLast (ev : List Event) : Prop :=
  ∃ before bytes, NoErr before ∧ ev = before ++ [.write bytes .err]

theorem FailsLast.prepend {a b : List Event} (hb : FailsLast b) (ha : NoErr a) : FailsLast (a ++ b) := by
  obtain ⟨before, bytes, hbefore, rfl⟩ := hb
  exact ⟨a ++ before, bytes, noErr_append.2 ⟨ha, hbefore⟩, (List.append_assoc ..).symm⟩

theorem failsLast_failEvents {ts : List Transfer} {n : Nat} (hn : n < ts.length) : FailsLast (failEvents ts n) := by
  induction ts generalizing n with
  | nil => cases hn
  | cons t rest ih =>
    cases n with
    | zero => exact ⟨[.mode t.1], t.2, by simp, rfl⟩
    | succ n =>
      exact (ih (Nat.lt_of_succ_lt_succ hn)).prepend (a := [.mode t.1, .write t.2 .ok]) (by simp)

theorem FailsLast.exists_mem {ev : List Event} (h : FailsLast ev) : ∃ bytes, .write bytes .err ∈ ev := by
  obtain ⟨before, bytes, -, rfl⟩ := h
  exact ⟨bytes, List.mem_append_right _ (List.mem_singleton_self _)⟩

/-- A transfer answered `err` with something behind it would stand before the last event, where there is none. -/
theorem FailsLast.nothing_after {before after : List Event} {bytes : List Byte}
    (h : FailsLast (before ++ .write bytes .err :: after)) : after = [] := by
  obtain ⟨init, lastBytes, hinit, heq⟩ := h
  obtain rfl | ⟨rest, e, rfl⟩ := List.eq_nil_or_concat' after
  · rfl
  · rw [← List.cons_append, ← List.append_assoc] at heq
    obtain ⟨rfl, -⟩ := List.append_inj' heq rfl
    exact absurd (List.mem_append_right _ List.mem_cons_self) (hinit bytes)

/-- How a request that leads from `s` to `t` shows an error of the bus (60_exceptions.md R171): a transfer answered
`err` ends it with `BusFailure` and keeps `DRV_STATE`, or there is neither such a transfer nor that result. -/
def ReportsBus (s t : State) : Prop :=
  (t.result = some (.err .busFailure) ∧ FailsLast (newEvents s t) ∧ t.drvState = s.drvState) ∨
    (t.result ≠ some (.err .busFailure) ∧ NoErr (newEvents s t))

theorem InitOutcome.reportsBus {s t : State} (h : InitOutcome s t) : ReportsBus s t := by
  cases h with
  | ok | timeout => exact .inr ⟨nofun, by simp [newEvents]⟩
  | busFailure k n _ hn =>
    have hfail : FailsLast (failEvents (initTransfers s.cfg) n) := failsLast_failEvents (by rwa [initTransfers_length])
    have hlead : NoErr (pulseEvents ++ waitEvents k) := by simp
    exact .inl ⟨rfl, by simpa [newEvents] using hfail.prepend hlead, rfl⟩

theorem UpdateOutcome.reportsBus {s : State} {ends : RefreshMode → State} (h : UpdateOutcome s ends)
    (mode : RefreshMode) : ReportsBus s (ends mode) := by
  cases h with
  | invalidState | noPixel | timeout | ok => exact .inr ⟨nofun, by simp [newEvents]⟩
  | busFailure n _ hn =>
    have hfail : FailsLast (failEvents (updateTransfers s.cfg s.fb mode) n) :=
      failsLast_failEvents (by rwa [updateTransfers_length])
    exact .inl ⟨rfl, by simpa [newEvents] using hfail, rfl⟩

theorem SleepOutcome.reportsBus {s t : State} (h : SleepOutcome s t) : ReportsBus s t := by
  cases h with
  | invalidState | ok => exact .inr ⟨nofun, by simp [newEvents]⟩
  | busFailure n _ hn =>
    have hfail : FailsLast (failEvents (sleepTransfers s.cfg) n) := failsLast_failEvents hn
    exact .inl ⟨rfl, by simpa [newEvents] using hfail, rfl⟩

theorem exec_reportsBus {i : Instr} {s t : State} (hi : Sequences i) (h : exec i s = .next t) : ReportsBus s t := by
  obtain rfl | ⟨mode, rfl⟩ | rfl := hi
  · exact (initOutcome_of_exec h).reportsBus
  · obtain ⟨ends, ho, rfl⟩ := updateOutcome_of_exec h
    exact ho.reportsBus mode
  · exact (sleepOutcome_of_exec h).reportsBus

/-- Settles O29: `BusFailure` is the outcome with a failed transfer, which stands last. -/
theorem errAnswerEndsTheRequest : Obligations.ErrAnswerEndsTheRequest := by
  intro i s t hi h
  refine ⟨newEvents s t, exec_trace_eq h, ?_⟩
  obtain ⟨hres, hlast, hdrv⟩ | ⟨hres, hno⟩ := exec_reportsBus hi h
  · refine ⟨⟨fun _ => hlast.exists_mem, fun _ => hres⟩, fun before bytes after hev => ?_⟩
    rw [hev] at hlast
    exact ⟨hlast.nothing_after, hdrv⟩
  · refine ⟨⟨fun hfail => absurd hfail hres, fun ⟨bytes, hmem⟩ => absurd hmem (hno bytes)⟩,
      fun before bytes after hev => ?_⟩
    rw [hev] at hno
    exact absurd (List.mem_append_right _ List.mem_cons_self) (hno bytes)

/-! ### Delays -/

@[simp] theorem totalDelay_append (c : Config) (a b : List Event) :
    totalDelay c (a ++ b) = totalDelay c a + totalDelay c b := by
  fun_induction totalDelay c a with
  | case1 => simp
  | case2 d rest ih => simp [totalDelay, ih, Nat.add_assoc]
  | case3 e rest hne ih => simp [totalDelay, ih]

@[simp] theorem totalDelay_okEvents (c : Config) (ts : List Transfer) : totalDelay c (okEvents ts) = 0 := by
  induction ts with
  | nil => rfl
  | cons t rest ih => exact ih

@[simp] theorem totalDelay_failEvents (c : Config) (ts : List Transfer) (n : Nat) :
    totalDelay c (failEvents ts n) = 0 := by
  induction ts generalizing n with
  | nil => rfl
  | cons t rest ih =>
    cases n with
    | zero => rfl
    | succ n => exact ih n

/-- Every busy sample of a wait that ends is followed by one delay (42_display_driver.md R146). -/
@[simp] theorem totalDelay_waitEvents (c : Config) (k : Nat) : totalDelay c (waitEvents k) = k * c.tPoll := by
  induction k with
  | zero => simp [waitEvents, totalDelay]
  | succ k ih =>
    simp only [waitEvents, totalDelay, durationValue, ih, Nat.succ_mul]
    exact Nat.add_comm ..

/-- The last busy sample of a wait that gives up is followed by none (42_display_driver.md R146). -/
@[simp] theorem totalDelay_timeoutEvents (c : Config) (n : Nat) :
    totalDelay c (timeoutEvents n) = (n - 1) * c.tPoll := by
  fun_induction timeoutEvents n with
  | case1 | case2 => simp [totalDelay]
  | case3 n ih =>
    simp only [totalDelay, durationValue, ih, Nat.add_sub_cancel]
    exact (Nat.add_comm ..).trans (Nat.succ_mul ..).symm

@[simp] theorem totalDelay_pulseEvents (c : Config) : totalDelay c pulseEvents = c.tResetHold + c.tResetSettle := by
  simp [pulseEvents, totalDelay, durationValue]

/-- A wait that sees the chip idle has delayed less often than it may sample. -/
theorem IdleAfter.delay_le {s : State} {k : Nat} (h : IdleAfter s k) :
    k * s.cfg.tPoll ≤ (s.cfg.maxPolls - 1) * s.cfg.tPoll :=
  Nat.mul_le_mul_right _ (Nat.le_sub_one_of_lt h.1)

theorem InitOutcome.totalDelay_le {s t : State} (h : InitOutcome s t) :
    totalDelay s.cfg (newEvents s t) ≤
      s.cfg.tResetHold + s.cfg.tResetSettle + (s.cfg.maxPolls - 1) * s.cfg.tPoll := by
  cases h with
  | ok k hwait | busFailure k n hwait => simpa [newEvents] using hwait.delay_le
  | timeout => simp [newEvents]

theorem UpdateOutcome.totalDelay_le {s : State} {ends : RefreshMode → State} (h : UpdateOutcome s ends)
    (mode : RefreshMode) :
    totalDelay s.cfg (newEvents s (ends mode)) ≤ (s.cfg.maxPolls - 1) * s.cfg.tPoll := by
  cases h with
  | invalidState | noPixel => simp [newEvents, totalDelay]
  | busFailure | timeout => simp [newEvents]
  | ok k _ _ hwait => simpa [newEvents] using hwait.delay_le

theorem SleepOutcome.totalDelay_eq_zero {s t : State} (h : SleepOutcome s t) :
    totalDelay s.cfg (newEvents s t) = 0 := by
  cases h with
  | invalidState => simp [newEvents, totalDelay]
  | ok | busFailure => simp [newEvents]

theorem newEvents_of_exec_draws {i : Instr} {s t : State} (hi : Draws i) (h : exec i s = .next t) :
    newEvents s t = [] := by
  obtain ⟨r, fb, rfl⟩ := exec_draws hi h
  exact List.drop_length

/-- Settles O40: only the pulse and the wait delay, and a wait delays less often than it samples. -/
theorem delaysAreBounded : Obligations.DelaysAreBounded := by
  refine fun i s t hi h => ⟨newEvents s t, exec_trace_eq h, ?_⟩
  cases i with
  | init => exact (initOutcome_of_exec h).totalDelay_le
  | update mode =>
    obtain ⟨ends, ho, rfl⟩ := updateOutcome_of_exec h
    exact ho.totalDelay_le mode
  | sleep => exact (sleepOutcome_of_exec h).totalDelay_eq_zero.le
  | setPixel x y col =>
    rw [newEvents_of_exec_draws (.inl ⟨x, y, col, rfl⟩) h]
    exact Nat.le_refl 0
  | clear col =>
    rw [newEvents_of_exec_draws (.inr ⟨col, rfl⟩) h]
    exact Nat.le_refl 0
  | _ => cases hi

/-! ### What no request reads -/

/-- `s` with another last result, trace, line latches and operand registers (60_exceptions.md R177, 10_state.md R10,
R17, R18, R21, R22). -/
abbrev State.withHistory (s : State) (r : Option Result) (tr : List Event) (ro : ResetLevel) (dc : SelectMode)
    (q : Request) : State :=
  { s with result := r, trace := tr, rstOut := ro, dcOut := dc, req := q }

/-- `i` leads from `s'` to a state that shows the same work as `t` does from `s`. -/
def SameWork (i : Instr) (s t s' : State) : Prop :=
  ∃ t', exec i s' = .next t' ∧ newEvents s' t' = newEvents s t ∧ t'.result = t.result ∧ t'.drvState = t.drvState ∧
    t'.fb = t.fb

section

variable {s t : State} (r : Option Result) (tr : List Event) (ro : ResetLevel) (dc : SelectMode) (q : Request)

theorem InitOutcome.sameWork (h : InitOutcome s t) : SameWork .init s t (s.withHistory r tr ro dc q) := by
  cases h with
  | ok k hwait hbus => exact ⟨_, exec_init_ok hwait hbus, by simp [newEvents], rfl, rfl, rfl⟩
  | busFailure k n hwait hn hbus => exact ⟨_, exec_init_busFailure hwait hn hbus, by simp [newEvents], rfl, rfl, rfl⟩
  | timeout hwait => exact ⟨_, exec_init_timeout hwait, by simp [newEvents], rfl, rfl, rfl⟩

theorem SleepOutcome.sameWork (h : SleepOutcome s t) : SameWork .sleep s t (s.withHistory r tr ro dc q) := by
  cases h with
  | invalidState hs => exact ⟨_, exec_sleep_invalidState hs, by simp [newEvents], rfl, rfl, rfl⟩
  | ok hs hbus => exact ⟨_, exec_sleep_ok hs hbus, by simp [newEvents], rfl, rfl, rfl⟩
  | busFailure n hs hn hbus => exact ⟨_, exec_sleep_busFailure hs hn hbus, by simp [newEvents], rfl, rfl, rfl⟩

theorem exec_update_sameWork {mode : RefreshMode} (h : exec (.update mode) s = .next t) :
    SameWork (.update mode) s t (s.withHistory r tr ro dc q) := by
  refine holds_of_next (P := fun u => SameWork (.update mode) s u (s.withHistory r tr ro dc q)) h ?_
  by_cases hs : s.drvState = .ready
  case neg =>
    exact ⟨_, exec_update_invalidState mode hs, _, exec_update_invalidState mode hs, by simp [newEvents], rfl, rfl, rfl⟩
  by_cases hp : HasPixel s.cfg
  case neg =>
    exact ⟨_, exec_update_noPixel mode hs hp, _, exec_update_noPixel mode hs hp, by simp [newEvents], rfl, rfl, rfl⟩
  obtain hbus | ⟨n, hn, hbus⟩ := busOk_or_failsAt s (updateTransfers s.cfg s.fb mode).length
  · obtain ⟨k, hwait⟩ | hwait := idleAfter_or_stuck s
    · exact ⟨_, exec_update_completes mode hs hp hbus hwait, _, exec_update_completes mode hs hp hbus hwait,
        by simp [newEvents], rfl, rfl, rfl⟩
    · exact ⟨_, exec_update_timeout mode hs hp hbus hwait, _, exec_update_timeout mode hs hp hbus hwait,
        by simp [newEvents], rfl, rfl, rfl⟩
  · exact ⟨_, exec_update_busFailure mode hs hp hn hbus, _, exec_update_busFailure mode hs hp hn hbus,
      by simp [newEvents], rfl, rfl, rfl⟩

theorem exec_draws_sameWork {i : Instr} (hi : Draws i) (h : exec i s = .next t) :
    SameWork i s t (s.withHistory r tr ro dc q) := by
  obtain ⟨res, fb, -, he⟩ := exec_draws_outcome hi s.cfg s.fb
  obtain rfl := Host.Outcome.next.inj ((he s rfl rfl).symm.trans h)
  exact ⟨_, he _ rfl rfl, by simp [newEvents], rfl, rfl, rfl⟩

end

/-- Settles O41: each outcome is decided by the driver state, the configuration, the framebuffer and the answers. -/
theorem errorsAreNotSticky : Obligations.ErrorsAreNotSticky := by
  intro i s t r tr ro dc q hi h
  have hsame : SameWork i s t (s.withHistory r tr ro dc q) := by
    cases i with
    | init => exact (initOutcome_of_exec h).sameWork r tr ro dc q
    | update mode => exact exec_update_sameWork r tr ro dc q h
    | sleep => exact (sleepOutcome_of_exec h).sameWork r tr ro dc q
    | setPixel x y col => exact exec_draws_sameWork r tr ro dc q (.inl ⟨x, y, col, rfl⟩) h
    | clear col => exact exec_draws_sameWork r tr ro dc q (.inr ⟨col, rfl⟩) h
    | _ => cases hi
  obtain ⟨t', ht', hev, hres, hdrv, hfb⟩ := hsame
  exact ⟨newEvents s t, t', exec_trace_eq h, ht', hev ▸ exec_trace_eq ht', hres, hdrv, hfb⟩

end Sys2Proof.Machine
end

section
/-! PROOFS. The requests that may follow a SLEEP (spec/70_reset_and_hazards.md R209). -/

namespace Sys2Proof.Machine

/-- Only a SLEEP that ran to its end answers `Ok`, and it leaves `Sleeping` (42_display_driver.md R145). -/
theorem sleeping_of_exec_sleep_ok {s t : State} (h : exec .sleep s = .next t) (hok : t.result = some .ok) :
    t.drvState = .sleeping := by
  cases sleepOutcome_of_exec h with
  | ok => rfl
  | invalidState | busFailure => cases hok

/-- Settles O30: `Sleeping` is not `Ready`, so UPDATE and SLEEP fail their check, which INIT does not make. -/
theorem afterSleepOnlyInit : Obligations.AfterSleepOnlyInit := by
  intro s t h hok
  have hsleeping : t.drvState = .sleeping := sleeping_of_exec_sleep_ok h hok
  have hnotReady : t.drvState ≠ .ready := hsleeping ▸ nofun
  exact ⟨hsleeping, fun mode => exec_update_invalidState mode hnotReady, exec_sleep_invalidState hnotReady,
    fun _ hwait hbus => ⟨_, exec_init_ok hwait hbus, rfl, rfl⟩⟩

end Sys2Proof.Machine
end

section
/-! PROOFS. That pixels have bits of their own (spec/20_memory.md R31), the words of spec/95_test_vectors.md, and what
each descriptor sends when it is run alone with every answer `ok` (20_memory.md R40, 40_command_encoder.md R91 to
R102), or why a RAM write is refused (R107, log 15). -/

namespace Sys2Proof.Machine

/-- Settles O16: an equal mask means an equal column of the byte, and byte and column identify the pixel. -/
theorem pixelsDoNotShareBits : Obligations.PixelsDoNotShareBits := by
  intro c px py px' py' hx _ hx' _ h
  have hbit : px % 8 = px' % 8 := by
    have hj : (locate c px py).2.getLsbD (7 - px % 8) = true := by
      rw [getLsbD_locate_mask]
      omega
    rw [h, getLsbD_locate_mask] at hj
    omega
  exact Prod.mk.inj (pixel_eq_of_locate_eq hx' hx (congrArg Prod.fst h) hbit)

/-- A byte sequence that is the encoding of a descriptor instruction decodes to it (30_encoding.md R67). -/
theorem decodeBytes_encode {c : Config} {i : Instr} {op : Byte} {data : List Byte} (hw : c.WellFormed)
    (he : encode c i = .cmd ⟨op, data⟩) (hp : WritesWholePlane c i) : decodeBytes c (op :: data) = .ok i :=
  decodeDescriptor_encode hw he hp

/-- Settles O8: each word is the encoding of what it stands for, under a well-formed configuration. -/
theorem specWordsDecode : Obligations.SpecWordsDecode :=
  have hpanel : (configOf 128 296 .r0 .one 1).WellFormed := by decide
  have hsmall : (configOf 8 2 .r0 .one 1).WellFormed := by decide
  ⟨decodeBytes_encode hpanel rfl trivial, decodeBytes_encode hpanel rfl trivial, decodeBytes_encode hsmall rfl rfl,
    decodeRequest_encode (c := resetConfig) rfl, decodeRequest_encode (c := resetConfig) rfl⟩

/-! ### A descriptor whose transfers are all answered `ok` -/

/-- A descriptor is at most two transfers (20_memory.md R40). -/
theorem transfersOf_length_le (op : Byte) (data : List Byte) : (transfersOf op data).length ≤ 2 := by
  by_cases h : data = [] <;> simp [transfersOf, h]

theorem BusOk.mono {s : State} {m n : Nat} (h : BusOk s n) (hmn : m ≤ n) : BusOk s m :=
  fun j hj => h j (Nat.lt_of_lt_of_le hj hmn)

theorem runDescriptor_ok {d : Descriptor} {s : State} (hbus : BusOk s (transfersOf d.op d.data).length) :
    runDescriptor d s = .next (afterTransfers (transfersOf d.op d.data) s) := by
  rw [runDescriptor, send_eq_transferAll, transferAll_ok _ s hbus, Flow.settle_go]

/-- Two `ok` answers are enough for any descriptor `write_ram` does not refuse. -/
theorem exec_encode_ok {s : State} {i : Instr} {op : Byte} {data : List Byte}
    (he : encode s.cfg i = .cmd ⟨op, data⟩) (hp : WritesWholePlane s.cfg i) (hbus : BusOk s 2) :
    exec i s = .next (afterTransfers (transfersOf op data) s) := by
  rw [exec_encode he hp, runDescriptor_ok (hbus.mono (transfersOf_length_le op data))]

/-- Settles O46: each of the seven is the `Send` of its encoding, whose 16-bit values go low byte first. -/
theorem bootDescriptorsSend : Obligations.BootDescriptorsSend := by
  intro s lines ys ye a b hbus
  simp only [← hi8_eq_setWidth]
  simp only [← lo8_eq_setWidth]
  refine ⟨?_, ?_, ?_, ?_, ?_, ?_, ?_⟩ <;> exact exec_encode_ok rfl trivial hbus

/-- Settles O47: UPDATE_CTRL_2 and DEEP_SLEEP are two transfers each, MASTER_ACTIVATION is its opcode byte alone. -/
theorem triggerAndSleepDescriptorsSend : Obligations.TriggerAndSleepDescriptorsSend :=
  fun s _ => ⟨exec_encode_ok rfl trivial, runDescriptor_ok (d := masterActivation s.cfg), exec_encode_ok rfl trivial⟩

/-! ### The RAM writes -/

theorem runRamWrite_refused {s : State} {p : PlaneId} {bytes : List Byte} {r : Refusal}
    (h : writeRam s.cfg p bytes = .error r) : runRamWrite p bytes s = .refused r := by
  rw [runRamWrite, h]

/-- Settles O48: a whole plane passes `write_ram` and is sent; each other operand fails one of its two checks. -/
theorem ramWritesSendOnePlane : Obligations.RamWritesSendOnePlane := by
  refine fun s bytes => ⟨fun hlen hbus => ⟨?_, fun htwo => ?_⟩, fun hlen => ⟨?_, fun htwo => ?_⟩, fun hone => ?_⟩
  · exact exec_encode_ok rfl hlen hbus
  · exact exec_encode_ok rfl ⟨htwo, hlen⟩ hbus
  · exact runRamWrite_refused (writeRam_wrong_length rfl hlen)
  · exact runRamWrite_refused (writeRam_wrong_length (planeAllocated_red.2 htwo) hlen)
  · have hna : planeAllocated s.cfg .red = false := by simp [planeAllocated, hone]
    exact runRamWrite_refused (writeRam_not_allocated bytes hna)

end Sys2Proof.Machine
end
